-- ==== Sys2Proof/Word.lean ====
section
/-! DEFINITION. The two word types of AMCOM CORE: the byte and the 16-bit checksum word (spec R11, R51). -/

namespace Sys2Proof

/-- A byte: 8 bits, unsigned 0..255 (R11). It is the addressable unit of every space (R51). -/
abbrev Byte := BitVec 8

/-- The one quantity wider than a byte: the 16-bit checksum and running value (R51, R110). -/
abbrev Word := BitVec 16

end Sys2Proof
end

