-- ==== Sys2Proof/Config.lean ====
section
/-! DEFINITION. What the build fixes (spec R7, R30): the OPEN parameters as one record, the constants the spec
gives, and the free value the spec leaves open (the power-on contents of the payload buffer). -/

namespace Sys2Proof

/-- The OPEN parameters of R7. The record is an argument of everything that depends on it: the machine carries it
beside its registers (`Machine.State.cfg`), no operation writes it (R30), and a statement over all states is a
statement over all admissible values. -/
structure Config where
  /-- `START_MARKER`, any byte (R7, decision D2 of the spec). -/
  startMarker : Byte
  /-- `MAX_PAYLOAD_SIZE`, any natural number 0..255 (R7, D3; the bound is the type). -/
  maxPayloadSize : Fin 256
  /-- `CTX_W`, any width from 0 (R7, D18). -/
  ctxW : Nat
deriving DecidableEq, Repr, Inhabited

namespace Config

/-- `MAX_PAYLOAD_SIZE` as the natural number the length comparisons use (R175 (b)). -/
abbrev maxLen (c : Config) : Nat := c.maxPayloadSize.val

/-- `CRC_SEED` = 0xFFFF (R7, R112). -/
def crcSeed : Word := 0xFFFF#16

/-- `HEADER_SIZE` = 5: a frame is `5 + payloadLength` bytes (R7, R80). -/
def headerSize : Nat := 5

/-- `SER_LEN_W` = 16: the width of the serializer's requested length at a port (R7, R135). -/
def serLenW : Nat := 16

/-- The parameters of this build. The spec leaves them OPEN, so nothing can be proved about the value
(log entry 1). It is what the reset state carries. -/
opaque build : Config

/-- FREE VALUE (log entry 7): what `payload[i]` holds before anything has been stored there. The spec treats it as
`any value` (R36, U1, U2), and no reachable operation reads it (R35). -/
opaque unwrittenByte : Nat → Byte

end Config

end Sys2Proof
end

