-- ==== Sys2Proof/Syntax.lean ====
section
/-! DEFINITION. The instructions: one constructor for each row of spec/opcode_table.json. -/

namespace Sys2Proof

/-- One constructor per row of spec/opcode_table.json. In the spec's vocabulary (R10) an instruction is one operation
of R90; the table adds the reserved select codes (R92), one row per transition of `RX_FEED_BYTE` (R93, R154 to R164,
R172), the completion hook (R165) and the 40-bit frame header (R80). -/
inductive Instr where
  /-- op 0, `CRC_UPDATE(byte, running)` (R110). -/
  | crcUpdate (byte : Byte) (running : Word)
  /-- op 1, `SERIALIZE(type, payload)`; the one length is the payload's (R130, R135). -/
  | serialize (ptype : Byte) (payload : List Byte)
  /-- op 2, `RX_INIT(handler, ctx)` (R150). -/
  | rxInit (handler : Nat) (ctx : Nat)
  /-- op 3, `RX_RESET` (R151). -/
  | rxReset
  /-- op 4, `RX_FEED_BYTE(b)` (R153). -/
  | rxFeedByte (b : Byte)
  /-- Reserved select code 5 (R92). -/
  | reservedOp5
  /-- Reserved select code 6 (R92). -/
  | reservedOp6
  /-- Reserved select code 7 (R92). -/
  | reservedOp7
  /-- Row `FEED.Empty.start` (R154). -/
  | feedEmptyStart (b : Byte)
  /-- Row `FEED.Empty.other` (R155). -/
  | feedEmptyOther (b : Byte)
  /-- Row `FEED.GotStart` (R156). -/
  | feedGotStart (b : Byte)
  /-- Row `FEED.GotType.accept` (R157). -/
  | feedGotTypeAccept (b : Byte)
  /-- Row `FEED.GotType.reject` (R158). -/
  | feedGotTypeReject (b : Byte)
  /-- Row `FEED.GotLength` (R159). -/
  | feedGotLength (b : Byte)
  /-- Row `FEED.GotChecksumHigh.zero` (R160, then R165). -/
  | feedGotChecksumHighZero (b : Byte)
  /-- Row `FEED.GotChecksumHigh.nonzero` (R161). -/
  | feedGotChecksumHighNonzero (b : Byte)
  /-- Row `FEED.ReceivingPayload.last` (R162, then R165). -/
  | feedReceivingPayloadLast (b : Byte)
  /-- Row `FEED.ReceivingPayload.more` (R163). -/
  | feedReceivingPayloadMore (b : Byte)
  /-- Row `FEED.Complete`, the defensive row (R164). -/
  | feedComplete (b : Byte)
  /-- Row `FEED.Illegal7` (R172). -/
  | feedIllegal7 (b : Byte)
  /-- `COMPLETE_HOOK`, validate and dispatch (R165). -/
  | completeHook
  /-- `FRAME_HEADER`: the five header bytes `S T L c C` of a frame in transmission order (R80). -/
  | frameHeader (start ptype len crcLow crcHigh : Byte)
deriving DecidableEq, Repr

end Sys2Proof
end

