-- ==== Sys2Proof/WellFormed.lean ====
section
/-! DEFINITION. Well-formed instructions: the operand fits its port, and a transition row's own condition on the
input byte holds (spec R90, R91, R93). -/

namespace Sys2Proof

/-- An instruction that can be presented, under the parameters `c`:
a `SERIALIZE` whose length fits the 16 bits of `ser_len` (R135, D9), an `RX_INIT` whose context fits `CTX_W` bits
(R29, R91), and a transition row whose condition on `b` holds (R93). Every header byte pattern is legal at the
receiver, which gives each a meaning (R94). -/
def Instr.wf (c : Config) : Instr → Bool
  | .crcUpdate _ _ => true
  | .serialize _ payload => decide (payload.length < 2 ^ Config.serLenW)
  | .rxInit _ ctx => decide (ctx < 2 ^ c.ctxW)
  | .rxReset => true
  | .rxFeedByte _ => true
  | .reservedOp5 => true
  | .reservedOp6 => true
  | .reservedOp7 => true
  | .feedEmptyStart b => decide (b = c.startMarker)
  | .feedEmptyOther b => decide (b ≠ c.startMarker)
  | .feedGotStart _ => true
  | .feedGotTypeAccept b => decide (b.toNat ≤ c.maxLen)
  | .feedGotTypeReject b => decide (c.maxLen < b.toNat)
  | .feedGotLength _ => true
  | .feedGotChecksumHighZero _ => true
  | .feedGotChecksumHighNonzero _ => true
  | .feedReceivingPayloadLast _ => true
  | .feedReceivingPayloadMore _ => true
  | .feedComplete _ => true
  | .feedIllegal7 _ => true
  | .completeHook => true
  | .frameHeader _ _ _ _ _ => true

end Sys2Proof
end

