-- ==== Sys2Proof/Decode.lean ====
section
/-! DEFINITION. Decoding and encoding. A request is what stands at the block's input ports when an operation is
issued (spec R91), as bytes with the format (the column "format" of spec/opcode_table.json) that says which of the
table's spaces they are read in. Decoding is total on any request and rejects by name. -/

namespace Sys2Proof

/-- The column "format" of spec/opcode_table.json. The four spaces share bit patterns (a match of 0 is `CRC_UPDATE`
as a select code and `Empty` as the state register), so a word has a meaning only in its space. -/
inductive Format where
  /-- The 3-bit select code `op[2:0]` and the operand ports (R90, R91). -/
  | opSelect
  /-- The receiver's second-level decode: the state register, the input byte, `pkt.len` and `count` (R93). -/
  | rxTransition
  /-- `COMPLETE_HOOK`, which no host can select (R165). -/
  | internal
  /-- The 40-bit frame header (R80). -/
  | wireFrame
deriving DecidableEq, Repr

/-- One request as it stands at the ports (R91). Layout of `bytes`: log entry 4. -/
structure Request where
  format : Format
  /-- Byte 0 carries the select code (or state code) in bits 2..0; operand bytes follow, 16-bit operands low byte
  first, the payload last. -/
  bytes : List Byte
  /-- The handler offered to `RX_INIT`: a binding, so it is wiring and no bytes (R28). -/
  handler : Nat
  /-- `ctx_in` (R91). -/
  ctx : Nat
  /-- The request is presented while another operation on the same receiver is still in progress: a second driver,
  or the handler calling back during a dispatch (R174, R205). -/
  overlaps : Bool
deriving DecidableEq, Repr

/-- Why the decoder rejects a request. -/
inductive DecodeReject where
  /-- No select byte, or an operand byte is missing (R91 gives every operand a port). -/
  | missingOperand
  /-- `SERIALIZE` with fewer payload bytes than its declared length (R135, U13). -/
  | payloadShort
  /-- A transition, hook or header word that is not of its exact length. -/
  | wrongLength
  /-- An `internal` word that is not the state code 6 of `COMPLETE_HOOK`. -/
  | noSuchRow
deriving DecidableEq, Repr

/-- Bits 2..0 of the select byte: `op[2:0]`, or the state code (R90, R93). The table's mask is 7: bits 7..3 are no
part of the pattern and are not looked at. -/
def selectCode (b : Byte) : Nat := b.toNat % 8

/-- A 16-bit operand from two bytes, low byte first (log entry 4; the order of R52). -/
def wordOf (lo hi : Byte) : Word := hi ++ lo

/-- Byte `k` of a number, byte 0 the least significant. -/
def byteAt (w k : Nat) : Byte := BitVec.ofNat 8 (w / 2 ^ (8 * k))

/-- `CRC_UPDATE`: byte, running low, running high (R90). -/
def decodeCrcUpdate : List Byte → Except DecodeReject Instr
  | b :: lo :: hi :: _ => .ok (.crcUpdate b (wordOf lo hi))
  | _ => .error .missingOperand

/-- `SERIALIZE`: type, `ser_len` low, `ser_len` high, then the caller's payload bytes, of which exactly `ser_len` are
read (R91, R135). -/
def decodeSerialize : List Byte → Except DecodeReject Instr
  | t :: lo :: hi :: payload =>
    if (wordOf lo hi).toNat ≤ payload.length then .ok (.serialize t (payload.take (wordOf lo hi).toNat))
    else .error .payloadShort
  | _ => .error .missingOperand

/-- `RX_FEED_BYTE`: b (R90). -/
def decodeFeedByte : List Byte → Except DecodeReject Instr
  | b :: _ => .ok (.rxFeedByte b)
  | [] => .error .missingOperand

/-- The operation-select space (R90, R92). `ctx_in` has `CTX_W` bits (R91). -/
def decodeOp (c : Config) (r : Request) : Except DecodeReject Instr :=
  match r.bytes with
  | [] => .error .missingOperand
  | sel :: args =>
    match selectCode sel with
    | 0 => decodeCrcUpdate args
    | 1 => decodeSerialize args
    | 2 => .ok (.rxInit r.handler (r.ctx % 2 ^ c.ctxW))
    | 3 => .ok .rxReset
    | 4 => decodeFeedByte args
    | 5 => .ok .reservedOp5
    | 6 => .ok .reservedOp6
    | _ => .ok .reservedOp7

/-- The decode table of `RX_FEED_BYTE` (R93): which row the state code, the input byte, `pkt.len` and `count` select.
The second row of `ReceivingPayload` is the `else` of R153 (log entry 12). -/
def decodeRow (c : Config) (code : Nat) (b len count : Byte) : Instr :=
  match code with
  | 0 => if b = c.startMarker then .feedEmptyStart b else .feedEmptyOther b
  | 1 => .feedGotStart b
  | 2 => if b.toNat ≤ c.maxLen then .feedGotTypeAccept b else .feedGotTypeReject b
  | 3 => .feedGotLength b
  | 4 => if len = 0#8 then .feedGotChecksumHighZero b else .feedGotChecksumHighNonzero b
  | 5 => if count + 1#8 = len then .feedReceivingPayloadLast b else .feedReceivingPayloadMore b
  | 6 => .feedComplete b
  | _ => .feedIllegal7 b

/-- The transition space: state code, input byte, `pkt.len`, `count` (R93). -/
def decodeTransition (c : Config) : List Byte → Except DecodeReject Instr
  | [st, b, len, count] => .ok (decodeRow c (selectCode st) b len count)
  | _ => .error .wrongLength

/-- The internal space holds one row, matched by state code 6 (R165). -/
def decodeInternal : List Byte → Except DecodeReject Instr
  | [st] => if selectCode st = 6 then .ok .completeHook else .error .noSuchRow
  | _ => .error .wrongLength

/-- The frame header, five bytes in transmission order (R80). -/
def decodeHeader : List Byte → Except DecodeReject Instr
  | [s, t, l, lo, hi] => .ok (.frameHeader s t l lo hi)
  | _ => .error .wrongLength

/-- The decoder: total on any request. -/
def decode (c : Config) (r : Request) : Except DecodeReject Instr :=
  match r.format with
  | .opSelect => decodeOp c r
  | .rxTransition => decodeTransition c r.bytes
  | .internal => decodeInternal r.bytes
  | .wireFrame => decodeHeader r.bytes

/-- A request of the host's: an operation with its operand bytes, not overlapping another (R90). -/
def Request.op (bytes : List Byte) : Request := ⟨.opSelect, bytes, 0, 0, false⟩

/-- A transition word (R93). -/
def Request.row (code b len count : Byte) : Request := ⟨.rxTransition, [code, b, len, count], 0, 0, false⟩

/-- The bytes of a 16-bit operand, low byte first. -/
def bytesOfWord (w : Word) : List Byte := [w.extractLsb' 0 8, w.extractLsb' 8 8]

/-- The encoder: the request that presents an instruction (R90, R93, R80). Where a row leaves `pkt.len` or `count`
free, the encoder takes the least values that select it. -/
def encode : Instr → Request
  | .crcUpdate b r => .op (0#8 :: b :: bytesOfWord r)
  | .serialize t p => .op (1#8 :: t :: (bytesOfWord (BitVec.ofNat 16 p.length) ++ p))
  | .rxInit h x => ⟨.opSelect, [2#8], h, x, false⟩
  | .rxReset => .op [3#8]
  | .rxFeedByte b => .op [4#8, b]
  | .reservedOp5 => .op [5#8]
  | .reservedOp6 => .op [6#8]
  | .reservedOp7 => .op [7#8]
  | .feedEmptyStart b => .row 0#8 b 0#8 0#8
  | .feedEmptyOther b => .row 0#8 b 0#8 0#8
  | .feedGotStart b => .row 1#8 b 0#8 0#8
  | .feedGotTypeAccept b => .row 2#8 b 0#8 0#8
  | .feedGotTypeReject b => .row 2#8 b 0#8 0#8
  | .feedGotLength b => .row 3#8 b 0#8 0#8
  | .feedGotChecksumHighZero b => .row 4#8 b 0#8 0#8
  | .feedGotChecksumHighNonzero b => .row 4#8 b 1#8 0#8
  | .feedReceivingPayloadLast b => .row 5#8 b 1#8 0#8
  | .feedReceivingPayloadMore b => .row 5#8 b 2#8 0#8
  | .feedComplete b => .row 6#8 b 0#8 0#8
  | .feedIllegal7 b => .row 7#8 b 0#8 0#8
  | .completeHook => ⟨.internal, [6#8], 0, 0, false⟩
  | .frameHeader s t l lo hi => ⟨.wireFrame, [s, t, l, lo, hi], 0, 0, false⟩

/-- The longest operation with all operand bits zero: select byte, type, `ser_len`, no payload. -/
def longestOpBytes : Nat := 4

/-- A word of the table as a request (log entry 4). A word of 40 bits is the frame header, the table's one row of that
width, as R80 and the table write it: the byte of offset 0 leftmost, in bits 39..32. Every other word is read in the
operation-select space: `nbits` bits of `w`, byte 0 the least significant, zeros above. -/
def requestOfWord (nbits w : Nat) : Request :=
  if nbits = 40 then
    ⟨.wireFrame, [byteAt w 4, byteAt w 3, byteAt w 2, byteAt w 1, byteAt w 0], 0, 0, false⟩
  else
    .op ((List.range longestOpBytes).map (byteAt (w % 2 ^ nbits)))

/-- The instruction the decoder reads from a word of the table. The parameters play no part in these two spaces but
for the width of a context that is 0 here. -/
def decodeTableWord (nbits w : Nat) : Option Instr :=
  (decode Config.build (requestOfWord nbits w)).toOption

end Sys2Proof
end

