-- ==== Sys2Proof/Machine/State.lean ====
section
/-! DEFINITION. The machine's state as plain data (spec R20 to R39), the events it emits (R200, R131, R214), the
reasons a step can stop, and the state before the first `RX_INIT`. -/

namespace Sys2Proof.Machine

/-- The receiver's state register (R21): the seven enumerated states in the document's order, and the eighth value
of the 3-bit register, which no rule writes. There `RX_FEED_BYTE` is refused (R172), `RX_INIT` constructs as anywhere
(R150) and `RX_RESET` resets (the model's choice: log entry 19). -/
inductive RxState where
  | empty
  | gotStart
  | gotType
  | gotLength
  /-- The document's name: the byte already stored is the LOW checksum byte, the one awaited the HIGH byte (R21, C1). -/
  | gotChecksumHigh
  | receivingPayload
  /-- Transient: never the value between operations (R34 (I-a)). -/
  | complete
  | illegal7
deriving DecidableEq, Repr

/-- A byte memory: (address, byte) pairs, addresses strictly rising; an address not listed has never been written. -/
abbrev Memory := List Host.Cell

/-- The receiver, element by element as in the table of R20. -/
structure Receiver where
  /-- `state` (R21). -/
  state : RxState
  /-- `count`, the payload bytes already stored (R22). -/
  count : Byte
  /-- `pkt.start` (R23). -/
  pktStart : Byte
  /-- `pkt.type` (R24). -/
  pktType : Byte
  /-- `pkt.len` (R25). -/
  pktLen : Byte
  /-- `pkt.crc`, the received checksum (R26). -/
  pktCrc : Word
  /-- `payload[0 .. MAX_PAYLOAD_SIZE-1]` (R27, R50). -/
  payload : Memory
  /-- `handler`: the binding, by name; `none` is the unbound handler of R36 (R28, log entry 8). -/
  handler : Option Nat
  /-- `ctx`, `CTX_W` bits (R29, log entry 9). -/
  ctx : Nat
  /-- `inited`, the ghost flag (R39). -/
  inited : Bool
deriving DecidableEq, Repr

/-- The error taxonomy: these three and no fourth (R210). -/
inductive ErrorCode where
  | oversizedPayload
  | invalidLengthField
  | checksumMismatch
deriving DecidableEq, Repr

/-- The fields of the block's output event (R200): values fixed at the moment of dispatch (R202). -/
structure Dispatch where
  start : Byte
  ptype : Byte
  len : Byte
  crc : Word
  payload : List Byte
  ctx : Nat
deriving DecidableEq, Repr

/-- The result of `SERIALIZE` (R130, R131). -/
inductive SerResult where
  | ok (frame : List Byte)
  | err (code : ErrorCode)
deriving DecidableEq, Repr

/-- What an operation yields: its result at the output ports (R91), the dispatch event (R200), or the label of an
absorbed receive error, which no port carries (R12, R214). -/
inductive Event where
  /-- `crc_out` of `CRC_UPDATE`. -/
  | crcOut (newRunning : Word)
  /-- The result of `SERIALIZE`. -/
  | serialized (r : SerResult)
  /-- `Dispatch{...}`, delivered to the bound handler (R28, R200). -/
  | dispatch (target : Option Nat) (d : Dispatch)
  /-- `drop(code)`: a label of the model's trace, not an output (R214). -/
  | drop (code : ErrorCode)
deriving DecidableEq, Repr

/-- The whole state. `rx` is all the state the spec gives the block (R20). The other three are the model's own:
the build's parameters (R7, read only: log entry 1), the operations the host has yet to issue (R9, log entry 3) and
the events so far, oldest first (log entry 6). -/
structure State where
  cfg : Config
  rx : Receiver
  pending : List Request
  trace : List Event
deriving DecidableEq, Repr

/-- Why the machine stops with a fault. -/
inductive Fault where
  /-- Raised by the payload buffer's accesses at an index `MAX_PAYLOAD_SIZE` or above, which the buffer does not have
  (R50). R56 derives that no run does this; `GoodState` rules it out. Safe. -/
  | payloadOutOfBounds
deriving DecidableEq, Repr

/-- Why the machine refuses: the uses outside the contract of R225, and what is no instruction. -/
inductive Refusal where
  /-- Raised by `exec` for an instruction without a meaning. None is left. Safe. -/
  | notModelled (mnemonic : String)
  /-- Raised by every receiver operation but `RX_INIT` on an instance never initialised (R173, D13). Safe. -/
  | notInitialised
  /-- Raised by `RX_FEED_BYTE` when the state register holds 7 (R172, D13). Safe. -/
  | illegalState
  /-- Raised by the reserved select codes 5, 6 and 7 (R92, D5). Safe. -/
  | reservedSelect
  /-- Raised by a receiver operation presented while another on the same receiver is in progress (R174, R205). Safe. -/
  | overlappingOperation
  /-- Raised by the decoder for `SERIALIZE` with fewer payload bytes than declared (R135, U13). Safe. -/
  | payloadShort
  /-- Raised by a transition row or the hook where the state, the byte, `pkt.len` or `count` select another row (R93,
  log entry 5). Safe. -/
  | rowNotSelected
  /-- Raised by the decoder for a request that is no instruction of its format (log entry 4). Safe. -/
  | malformedRequest (why : DecodeReject)
  /-- Raised by `Links.execOn` for an instance that does not exist (R38). Safe. -/
  | noSuchInstance
deriving DecidableEq, Repr

/-- The receiver before its first `RX_INIT`: `inited` false and the handler unbound, as R36 says; the spec calls
every other element unspecified, and the values named here are the model's (DESIGN CHOICE, log entry 2). -/
def Receiver.powerOn : Receiver where
  state := .empty
  count := 0#8
  pktStart := 0#8
  pktType := 0#8
  pktLen := 0#8
  pktCrc := 0#16
  payload := []
  handler := none
  ctx := 0
  inited := false

/-- The state before the first `RX_INIT` (R36, R250): the parameters OPEN, nothing pending, nothing emitted. -/
def State.reset : State where
  cfg := Config.build
  rx := Receiver.powerOn
  pending := []
  trace := []

end Sys2Proof.Machine
end

