-- ==== Sys2Proof/Machine/Operands.lean ====
section
/-! DEFINITION. The operand forms: slices and assembly of the 16-bit checksum (spec R11, R52, R84) and the layout of
a frame (R80, R132). -/

namespace Sys2Proof.Machine

/-- `v[7:0]` (R11). -/
def low8 (v : Word) : Byte := v.extractLsb' 0 8

/-- `v[15:8]` (R11). -/
def high8 (v : Word) : Byte := v.extractLsb' 8 8

/-- `zext_16(v)` (R11). -/
def zext16 (v : Byte) : Word := v.setWidth 16

/-- `{hi, lo}`: the more significant byte first (R11, R84). -/
def joinBytes (hi lo : Byte) : Word := hi ++ lo

/-- `v[7:0] <- b`, the other half unchanged (R26, R159). -/
def withLow8 (v : Word) (b : Byte) : Word := joinBytes (high8 v) b

/-- `v[15:8] <- b`, the other half unchanged (R26, R160, R161). -/
def withHigh8 (v : Word) (b : Byte) : Word := joinBytes b (low8 v)

/-- The frame's bytes in transmission order (R80, R132): marker, type, length, checksum LOW byte, checksum HIGH byte,
payload. -/
def frameBytes (marker ptype len : Byte) (crc : Word) (payload : List Byte) : List Byte :=
  marker :: ptype :: len :: low8 crc :: high8 crc :: payload

end Sys2Proof.Machine
end

