-- ==== Sys2Proof/Machine/Checksum.lean ====
section
/-! DEFINITION. The Checksum Engine (spec 40_checksum.md): the step, the fold, the checksum of a packet, and the
bit-serial recurrence the step equals (R116 (e)). Pure functions: no state is read or written (R115). -/

namespace Sys2Proof.Machine

/-- `crc_update(byte, running)`, with the 8-bit truncation of `d << 4` (R110, R111). -/
def crcUpdate (byte : Byte) (running : Word) : Word :=
  let d : Byte := byte ^^^ low8 running
  let e : Byte := d ^^^ (d <<< 4)
  let t1 : Word := joinBytes e (high8 running)
  let t2 : Word := zext16 (e >>> 4)
  let t3 : Word := zext16 e <<< 3
  t1 ^^^ t2 ^^^ t3

/-- `crc_fold(r, s)`: the accumulator threaded through the bytes from first to last (R113; `CRC_FOLD` of R96). -/
def crcFold : Word → List Byte → Word
  | r, [] => r
  | r, b :: s => crcFold (crcUpdate b r) s

/-- `packet_checksum(type, L, payload)`: type, length, payload in that order from the seed, never the start marker
(R114; `PACKET_CHECKSUM` of R96). -/
def packetChecksum (ptype len : Byte) (payload : List Byte) : Word :=
  crcFold Config.crcSeed (ptype :: len :: payload)

/-- One round of the bit-serial recurrence `r <- (r >> 1) XOR (0x8408 if r[0] else 0)` of R116 (e). -/
def bitSerialRound (r : Word) : Word := (r >>> 1) ^^^ (if r.getLsbD 0 then 0x8408#16 else 0#16)

/-- Eight rounds from `running XOR zext_16(byte)`: the reference R116 (e) compares the step with. -/
def bitSerialStep (byte : Byte) (running : Word) : Word :=
  Nat.repeat bitSerialRound 8 (running ^^^ zext16 byte)

end Sys2Proof.Machine
end

