-- ==== Sys2Proof/Machine/Flags.lean ====
section
/-! DEFINITION. The conditions the block computes. There are no flags and no condition codes (spec R32): these are
the tests of R175, used once by the operation that makes them and kept nowhere. -/

namespace Sys2Proof.Machine

/-- R175 (a): `b == START_MARKER` (R154, R155). -/
def isMarker (b : Byte) (s : State) : Bool := b == s.cfg.startMarker

/-- R175 (b): `zext(b) ≤ MAX_PAYLOAD_SIZE`, unsigned (R157, R158). -/
def lengthAccepted (b : Byte) (s : State) : Bool := decide (b.toNat ≤ s.cfg.maxLen)

/-- `pkt.len == 0` (R160, R161). -/
def noPayload (s : State) : Bool := s.rx.pktLen == 0#8

/-- R175 (c), (d): `count + 1 == pkt.len` with `count` as it is before the append (R162, C8). -/
def isLastByte (s : State) : Bool := s.rx.count + 1#8 == s.rx.pktLen

/-- `len(payload) ≤ MAX_PAYLOAD_SIZE`, the serializer's one check (R131). -/
def payloadFits (c : Config) (payload : List Byte) : Bool := decide (payload.length ≤ c.maxLen)

/-- The error codes of R97 in two bits: 0 is no error. -/
def errorCode : Option ErrorCode → BitVec 2
  | none => 0
  | some .oversizedPayload => 1
  | some .invalidLengthField => 2
  | some .checksumMismatch => 3

/-- The code of a state (R21). -/
def stateCode : RxState → Nat
  | .empty => 0
  | .gotStart => 1
  | .gotType => 2
  | .gotLength => 3
  | .gotChecksumHigh => 4
  | .receivingPayload => 5
  | .complete => 6
  | .illegal7 => 7

end Sys2Proof.Machine
end

