-- ==== Sys2Proof/Machine/Ops.lean ====
section
/-! DEFINITION. The named operations over the receiver's registers, its payload buffer and the trace. The shared
"exception" of this block is `dropAttempt` (spec R217: the only form of trap entry); nothing returns from it (R218). -/

namespace Sys2Proof.Machine

/-- The outcome of an operation of this machine. -/
abbrev Result := Host.Outcome State Fault Refusal

/-- Go on with the next phase, or stop as the phase before did (R12: phases run in order). -/
def andThen (o : Result) (f : State → Result) : Result :=
  match o with
  | .next s => f s
  | .fault r => .fault r
  | .refused r => .refused r

/-- The next state, where there is one. -/
def nextState? (o : Result) : Option State :=
  match o with
  | .next s => some s
  | .fault _ => none
  | .refused _ => none

/-! The payload buffer as a byte memory. -/

/-- One byte of a memory; `none` where nothing has been written. -/
def Memory.read : Memory → Nat → Option Byte
  | [], _ => none
  | (a, v) :: m, i => if a = i then some v else Memory.read m i

/-- Write one byte, keeping the addresses strictly rising. -/
def Memory.write : Memory → Nat → Byte → Memory
  | [], i, v => [(i, v)]
  | (a, u) :: m, i, v =>
    if i < a then (i, v) :: (a, u) :: m
    else if i = a then (i, v) :: m
    else (a, u) :: Memory.write m i v

/-- The one canonical form: addresses strictly rising (an address not listed reads as no value, so no entry can equal
what it reads as). -/
abbrev Memory.wf (m : Memory) : Prop := m.Pairwise (fun x y => x.1 < y.1)

/-- `payload[i]` (R27). Before anything is stored there it holds a value nobody knows (R36, log entry 7). -/
def payloadByte (s : State) (i : Nat) : Byte := (s.rx.payload.read i).getD (Config.unwrittenByte i)

/-- `payload[0 .. n]`, indices 0 to `n - 1` in order (R56, R165). -/
def payloadBytes (s : State) (n : Nat) : List Byte := (List.range n).map (payloadByte s)

/-! Register writes. -/

/-- Append an event to the trace. -/
def emit (e : Event) (s : State) : State := { s with trace := s.trace ++ [e] }

/-- `state <- x` (R21). -/
def setRxState (x : RxState) (s : State) : State := { s with rx := { s.rx with state := x } }

/-- `ResetToEmpty`: `state` and `count`, and nothing else (R152). -/
def resetToEmpty (s : State) : State := { s with rx := { s.rx with state := .empty, count := 0#8 } }

/-- The absorbed receive error: `drop(code)` and `ResetToEmpty` in the same operation; nothing saved, nothing
reported, control goes nowhere (R212, R213, R214, R217). -/
def dropAttempt (e : ErrorCode) (s : State) : State := resetToEmpty (emit (.drop e) s)

/-- `payload[count] <- b; count <- count + 1` (R56, R162, R163). An index the buffer does not have faults (R50, log
entry 11). -/
def storePayload (b : Byte) (s : State) : Result :=
  if s.rx.count.toNat < s.cfg.maxLen then
    .next { s with rx := { s.rx with payload := s.rx.payload.write s.rx.count.toNat b, count := s.rx.count + 1#8 } }
  else .fault .payloadOutOfBounds

/-! Validation and dispatch. -/

/-- The computed checksum of the packet held: over `pkt.type`, `pkt.len` and the first `pkt.len` payload bytes
(R165). -/
def computedChecksum (s : State) : Word :=
  packetChecksum s.rx.pktType s.rx.pktLen (payloadBytes s s.rx.pktLen.toNat)

/-- The event that carries the packet held: the whole header, a copy of the first `pkt.len` payload bytes, the context
(R200, R202, R203). -/
def packetHeld (s : State) : Dispatch where
  start := s.rx.pktStart
  ptype := s.rx.pktType
  len := s.rx.pktLen
  crc := s.rx.pktCrc
  payload := payloadBytes s s.rx.pktLen.toNat
  ctx := s.rx.ctx

/-- `CompleteHook` on a packet the buffer can hold (R165): dispatch if the checksums agree, else drop; `ResetToEmpty`
either way, after the dispatch. -/
def validate (s : State) : State :=
  if computedChecksum s = s.rx.pktCrc then resetToEmpty (emit (.dispatch s.rx.handler (packetHeld s)) s)
  else dropAttempt .checksumMismatch s

/-- `CompleteHook` (R165). A `pkt.len` above the capacity would read indices the buffer does not have (R50, log entry
11); R34 (I-b) rules it out. -/
def runHook (s : State) : Result :=
  if s.rx.pktLen.toNat ≤ s.cfg.maxLen then .next (validate s) else .fault .payloadOutOfBounds

/-- The eager check: the hook runs in the operation that set `state = Complete` (R153, R166). -/
def hookIfComplete (s : State) : Result := if s.rx.state = .complete then runHook s else .next s

/-- The form of every transition row and of the hook: part of an `RX_FEED_BYTE`, so refused before `RX_INIT` (R173),
and run only where the table selects it (R93, log entry 5). -/
def runRow (selected : Bool) (body : State → Result) (s : State) : Result :=
  if s.rx.inited then
    if selected then body s else .refused .rowNotSelected
  else .refused .notInitialised

end Sys2Proof.Machine
end

