-- ==== Sys2Proof/Machine/ChecksumEngine.lean ====
section
/-! DEFINITION. The operation `CRC_UPDATE` (spec R110). -/

namespace Sys2Proof.Machine

/-- `CRC_UPDATE(byte, running)`: the new running value at `crc_out`; no state is written (R110, R115). -/
def execCrcUpdate (byte : Byte) (running : Word) (s : State) : Result :=
  .next (emit (.crcOut (crcUpdate byte running)) s)

end Sys2Proof.Machine
end

