-- ==== Sys2Proof/Machine/Receiver.lean ====
section
/-! DEFINITION. The receiver's operations `RX_INIT`, `RX_RESET`, `RX_FEED_BYTE`, one body per transition, and the
transition rows of the table (spec 42_receiver.md). -/

namespace Sys2Proof.Machine

/-! ## Initialisation and reset -/

/-- `RX_INIT(handler, ctx)`: a (fresh) construction; the packet fields and the buffer are not written (R150, D27). The
register takes the `CTX_W` bits it has. -/
def execRxInit (handler ctx : Nat) (s : State) : Result :=
  .next { s with rx := { s.rx with
    inited := true, handler := some handler, ctx := ctx % 2 ^ s.cfg.ctxW, state := .empty, count := 0#8 } }

/-- `RX_RESET`: discard any frame in progress, without dispatch and without label (R151). DESIGN CHOICE (log entry 19):
where the state register holds 7 the body of R151 runs as it is written, though R225 lists that value among the refused
uses. -/
def execRxReset (s : State) : Result :=
  if s.rx.inited then .next (resetToEmpty s) else .refused .notInitialised

/-- A reset request and an input byte presented together to a clocked realisation: the reset is performed and the
byte is not consumed (R216, D23). -/
def execResetWithByte (_b : Byte) (s : State) : Result := execRxReset s

/-! ## The transition bodies (`T_…` of R154 to R163) -/

/-- `T_Empty_start` (R154). -/
def tEmptyStart (b : Byte) (s : State) : State :=
  { s with rx := { s.rx with pktStart := b, state := .gotStart } }

/-- `T_Empty_other`: nothing is written (R155). -/
def tEmptyOther (_b : Byte) (s : State) : State := s

/-- `T_GotStart` (R156). -/
def tGotStart (b : Byte) (s : State) : State :=
  { s with rx := { s.rx with pktType := b, state := .gotType } }

/-- `T_GotType_accept` (R157). -/
def tGotTypeAccept (b : Byte) (s : State) : State :=
  { s with rx := { s.rx with pktLen := b, state := .gotLength } }

/-- `T_GotType_reject`: `pkt.len` is not written, the byte is not taken for a marker (R158). -/
def tGotTypeReject (_b : Byte) (s : State) : State := dropAttempt .invalidLengthField s

/-- `T_GotLength`: the FIRST checksum byte is the LOW byte (R159, C1). -/
def tGotLength (b : Byte) (s : State) : State :=
  { s with rx := { s.rx with pktCrc := withLow8 s.rx.pktCrc b, state := .gotChecksumHigh } }

/-- `T_Gch_zero`: the SECOND checksum byte is the HIGH byte; no payload, so the frame is whole (R160). -/
def tGchZero (b : Byte) (s : State) : State :=
  { s with rx := { s.rx with pktCrc := withHigh8 s.rx.pktCrc b, state := .complete } }

/-- `T_Gch_nonzero` (R161). -/
def tGchNonzero (b : Byte) (s : State) : State :=
  { s with rx := { s.rx with pktCrc := withHigh8 s.rx.pktCrc b, state := .receivingPayload } }

/-- `T_Rp_last`: append and complete (R162). -/
def tRpLast (b : Byte) (s : State) : Result :=
  andThen (storePayload b s) fun s' => .next (setRxState .complete s')

/-- `T_Rp_more`: append and stay (R163). -/
def tRpMore (b : Byte) (s : State) : Result := storePayload b s

/-- The `Empty` rows (R154, R155), which the defensive row of `Complete` uses too (R164). -/
def tEmpty (b : Byte) (s : State) : State := if isMarker b s then tEmptyStart b s else tEmptyOther b s

/-! ## The byte step -/

/-- The `case state of` of R153. `Complete` cannot stand here, since the pre-phase has left it, and 7 is refused
before; both are refused by the name of R172. -/
def transition (b : Byte) (s : State) : Result :=
  match s.rx.state with
  | .empty => .next (tEmpty b s)
  | .gotStart => .next (tGotStart b s)
  | .gotType => .next (if lengthAccepted b s then tGotTypeAccept b s else tGotTypeReject b s)
  | .gotLength => .next (tGotLength b s)
  | .gotChecksumHigh => .next (if noPayload s then tGchZero b s else tGchNonzero b s)
  | .receivingPayload => if isLastByte s then tRpLast b s else tRpMore b s
  | .complete => .refused .illegalState
  | .illegal7 => .refused .illegalState

/-- `RX_FEED_BYTE(b)`: the refusals, the defensive pre-phase, the transition, the eager hook (R153). -/
def execRxFeedByte (b : Byte) (s : State) : Result :=
  if s.rx.inited then
    if s.rx.state = .illegal7 then .refused .illegalState
    else andThen (andThen (hookIfComplete s) (transition b)) hookIfComplete
  else .refused .notInitialised

/-! ## The rows of the table, each on its own -/

/-- Row `FEED.Empty.start` (R154). -/
def execFeedEmptyStart (b : Byte) (s : State) : Result :=
  runRow (s.rx.state == .empty && isMarker b s) (fun s => .next (tEmptyStart b s)) s

/-- Row `FEED.Empty.other` (R155). -/
def execFeedEmptyOther (b : Byte) (s : State) : Result :=
  runRow (s.rx.state == .empty && !isMarker b s) (fun s => .next (tEmptyOther b s)) s

/-- Row `FEED.GotStart` (R156). -/
def execFeedGotStart (b : Byte) (s : State) : Result :=
  runRow (s.rx.state == .gotStart) (fun s => .next (tGotStart b s)) s

/-- Row `FEED.GotType.accept` (R157). -/
def execFeedGotTypeAccept (b : Byte) (s : State) : Result :=
  runRow (s.rx.state == .gotType && lengthAccepted b s) (fun s => .next (tGotTypeAccept b s)) s

/-- Row `FEED.GotType.reject` (R158). -/
def execFeedGotTypeReject (b : Byte) (s : State) : Result :=
  runRow (s.rx.state == .gotType && !lengthAccepted b s) (fun s => .next (tGotTypeReject b s)) s

/-- Row `FEED.GotLength` (R159). -/
def execFeedGotLength (b : Byte) (s : State) : Result :=
  runRow (s.rx.state == .gotLength) (fun s => .next (tGotLength b s)) s

/-- Row `FEED.GotChecksumHigh.zero`, through `Complete` and the hook in the same operation (R160, R165). -/
def execFeedGotChecksumHighZero (b : Byte) (s : State) : Result :=
  runRow (s.rx.state == .gotChecksumHigh && noPayload s) (fun s => hookIfComplete (tGchZero b s)) s

/-- Row `FEED.GotChecksumHigh.nonzero` (R161). -/
def execFeedGotChecksumHighNonzero (b : Byte) (s : State) : Result :=
  runRow (s.rx.state == .gotChecksumHigh && !noPayload s) (fun s => .next (tGchNonzero b s)) s

/-- Row `FEED.ReceivingPayload.last`, through `Complete` and the hook in the same operation (R162, R165). -/
def execFeedReceivingPayloadLast (b : Byte) (s : State) : Result :=
  runRow (s.rx.state == .receivingPayload && isLastByte s) (fun s => andThen (tRpLast b s) hookIfComplete) s

/-- Row `FEED.ReceivingPayload.more` (R163). -/
def execFeedReceivingPayloadMore (b : Byte) (s : State) : Result :=
  runRow (s.rx.state == .receivingPayload && !isLastByte s) (fun s => tRpMore b s) s

/-- Row `FEED.Complete`: the hook without consuming `b`, then `b` from `Empty` (R164). -/
def execFeedComplete (b : Byte) (s : State) : Result :=
  runRow (s.rx.state == .complete) (fun s => andThen (runHook s) fun s' => .next (tEmpty b s')) s

/-- Row `FEED.Illegal7`: refuse, no state changes (R172). -/
def execFeedIllegal7 (_b : Byte) (s : State) : Result :=
  runRow (s.rx.state == .illegal7) (fun _ => .refused .illegalState) s

/-- `COMPLETE_HOOK`, with its precondition `state == Complete` (R165). -/
def execCompleteHook (s : State) : Result := runRow (s.rx.state == .complete) runHook s

end Sys2Proof.Machine
end

