-- ==== Sys2Proof/Machine/Feed.lean ====
section
/-! DEFINITION. Feeding a sequence of bytes (spec R96, R167) and the frame header as an instruction (R80). -/

namespace Sys2Proof.Machine

/-- `RX_FEED(bytes)`: `RX_FEED_BYTE` on each byte in order; no byte, nothing happens (R96 (1), R167, D25). -/
def rxFeed : List Byte → State → Result
  | [], s => .next s
  | b :: bs, s => andThen (execRxFeedByte b s) (rxFeed bs)

/-- `FRAME_HEADER`: the receiver decodes the five header bytes by consuming them in transmission order (R10, R80, R93;
log entry 13). The payload bytes that follow are further `RX_FEED_BYTE` operations. -/
def execFrameHeader (start ptype len crcLow crcHigh : Byte) (s : State) : Result :=
  rxFeed [start, ptype, len, crcLow, crcHigh] s

end Sys2Proof.Machine
end

