-- ==== Sys2Proof/Machine/Reserved.lean ====
section
/-! DEFINITION. The reserved select codes 5, 6 and 7 (spec R92): refused, no state changes. -/

namespace Sys2Proof.Machine

/-- Select code 5 (R92). -/
def execReservedOp5 (_s : State) : Result := .refused .reservedSelect

/-- Select code 6 (R92). -/
def execReservedOp6 (_s : State) : Result := .refused .reservedSelect

/-- Select code 7 (R92). -/
def execReservedOp7 (_s : State) : Result := .refused .reservedSelect

end Sys2Proof.Machine
end

