-- ==== Sys2Proof/Machine/Serializer.lean ====
section
/-! DEFINITION. The operation `SERIALIZE` (spec 41_serializer.md). -/

namespace Sys2Proof.Machine

/-- The frame of a payload that fits (R130, R132). The length byte is `trunc_8(n)`. -/
def serializedFrame (c : Config) (ptype : Byte) (payload : List Byte) : List Byte :=
  frameBytes c.startMarker ptype (BitVec.ofNat 8 payload.length)
    (packetChecksum ptype (BitVec.ofNat 8 payload.length) payload) payload

/-- `SERIALIZE(type, payload)`: the length check first, then the whole frame; an oversized payload is rejected, never
truncated (R130, R131, R136). -/
def serialize (c : Config) (ptype : Byte) (payload : List Byte) : SerResult :=
  if payloadFits c payload then .ok (serializedFrame c ptype payload) else .err .oversizedPayload

/-- `ser_nbytes`: the bytes written, `5 + n` or 0 (R91, R131, R133). -/
def serNBytes : SerResult → Nat
  | .ok frame => frame.length
  | .err _ => 0

/-- `ser_err`, and the code of the result (R91, R97). -/
def serError : SerResult → Option ErrorCode
  | .ok _ => none
  | .err e => some e

/-- The form that "writes into caller buffer, returning length" (R96 (4), R133): bytes `0 .. 4+n` of the buffer are
written and nothing else, and on the error none (R63, R131). `none` where the buffer is shorter than the frame, for
which the spec gives no behaviour (U13, log entry 14). -/
def serializeInto (c : Config) (ptype : Byte) (payload buffer : List Byte) : Option (List Byte × Nat) :=
  match serialize c ptype payload with
  | .ok frame => if frame.length ≤ buffer.length then some (frame ++ buffer.drop frame.length, frame.length) else none
  | .err _ => some (buffer, 0)

/-- The operation: its result at the output ports; no receiver field is read or written (R130, R134). -/
def execSerialize (ptype : Byte) (payload : List Byte) (s : State) : Result :=
  .next (emit (.serialized (serialize s.cfg ptype payload)) s)

end Sys2Proof.Machine
end

