-- ==== Sys2Proof/Machine/Dispatch.lean ====
section
/-! DEFINITION. One arm per instruction. -/

namespace Sys2Proof.Machine

def exec (i : Instr) (s : State) : Host.Outcome State Fault Refusal :=
  match i with
  | .crcUpdate byte running => Sys2Proof.Machine.execCrcUpdate byte running s
  | .serialize ptype payload => Sys2Proof.Machine.execSerialize ptype payload s
  | .rxInit handler ctx => Sys2Proof.Machine.execRxInit handler ctx s
  | .rxReset => Sys2Proof.Machine.execRxReset s
  | .rxFeedByte b => Sys2Proof.Machine.execRxFeedByte b s
  | .reservedOp5 => Sys2Proof.Machine.execReservedOp5 s
  | .reservedOp6 => Sys2Proof.Machine.execReservedOp6 s
  | .reservedOp7 => Sys2Proof.Machine.execReservedOp7 s
  | .feedEmptyStart b => Sys2Proof.Machine.execFeedEmptyStart b s
  | .feedEmptyOther b => Sys2Proof.Machine.execFeedEmptyOther b s
  | .feedGotStart b => Sys2Proof.Machine.execFeedGotStart b s
  | .feedGotTypeAccept b => Sys2Proof.Machine.execFeedGotTypeAccept b s
  | .feedGotTypeReject b => Sys2Proof.Machine.execFeedGotTypeReject b s
  | .feedGotLength b => Sys2Proof.Machine.execFeedGotLength b s
  | .feedGotChecksumHighZero b => Sys2Proof.Machine.execFeedGotChecksumHighZero b s
  | .feedGotChecksumHighNonzero b => Sys2Proof.Machine.execFeedGotChecksumHighNonzero b s
  | .feedReceivingPayloadLast b => Sys2Proof.Machine.execFeedReceivingPayloadLast b s
  | .feedReceivingPayloadMore b => Sys2Proof.Machine.execFeedReceivingPayloadMore b s
  | .feedComplete b => Sys2Proof.Machine.execFeedComplete b s
  | .feedIllegal7 b => Sys2Proof.Machine.execFeedIllegal7 b s
  | .completeHook => Sys2Proof.Machine.execCompleteHook s
  | .frameHeader start ptype len crcLow crcHigh => Sys2Proof.Machine.execFrameHeader start ptype len crcLow crcHigh s

end Sys2Proof.Machine
end

