-- ==== Sys2Proof/Machine/Issue.lean ====
section
/-! DEFINITION. Issuing one request: decode it, refuse what is outside the contract, run the instruction. -/

namespace Sys2Proof.Machine

/-- Does the instruction drive the receiver? `CRC_UPDATE` and `SERIALIZE` share no writable state with it and may be
used at any time, from inside the handler too (R33, R59, R205); a reserved code is refused as such. -/
def drivesReceiver : Instr → Bool
  | .crcUpdate _ _ => false
  | .serialize _ _ => false
  | .reservedOp5 => false
  | .reservedOp6 => false
  | .reservedOp7 => false
  | .rxInit _ _ => true
  | .rxReset => true
  | .rxFeedByte _ => true
  | .feedEmptyStart _ => true
  | .feedEmptyOther _ => true
  | .feedGotStart _ => true
  | .feedGotTypeAccept _ => true
  | .feedGotTypeReject _ => true
  | .feedGotLength _ => true
  | .feedGotChecksumHighZero _ => true
  | .feedGotChecksumHighNonzero _ => true
  | .feedReceivingPayloadLast _ => true
  | .feedReceivingPayloadMore _ => true
  | .feedComplete _ => true
  | .feedIllegal7 _ => true
  | .completeHook => true
  | .frameHeader _ _ _ _ _ => true

/-- The refusal for a request the decoder rejects (R135 has a name of its own). -/
def refusalOf : DecodeReject → Refusal
  | .payloadShort => .payloadShort
  | .missingOperand => .malformedRequest .missingOperand
  | .wrongLength => .malformedRequest .wrongLength
  | .noSuchRow => .malformedRequest .noSuchRow

/-- Issue the request `r` (R8, R59, R174). -/
def issue (r : Request) (s : State) : Result :=
  match decode s.cfg r with
  | .error e => .refused (refusalOf e)
  | .ok i => if r.overlaps && drivesReceiver i then .refused .overlappingOperation else exec i s

/-- The next request the host issues, and the state with it taken off the host's list (R9). -/
def takeRequest (s : State) : Option (Request × State) :=
  match s.pending with
  | [] => none
  | r :: rest => some (r, { s with pending := rest })

end Sys2Proof.Machine
end

