-- ==== Sys2Proof/Machine/Step.lean ====
section
/-! DEFINITION. One step: the host's next operation, whole (spec R8); with none issued nothing changes (R171). -/

namespace Sys2Proof.Machine

/-- One step. The unit of execution is one operation, atomically (R8). A block with no operation issued to it changes
nothing, for any length of time (R171, R223). -/
def step (s : State) : Host.Outcome State Fault Refusal :=
  match takeRequest s with
  | none => .next s
  | some (r, s') => issue r s'

/-- `s` with a word of the table as the very next request of the host (log entry 3). -/
def State.withFetchWord (s : State) (nbits w : Nat) : State :=
  { s with pending := requestOfWord nbits w :: s.pending }

end Sys2Proof.Machine
end

