-- ==== Sys2Proof/Machine/Links.lean ====
section
/-! DEFINITION. Several receiver instances side by side, one per logical link (spec R37, R38, R222). -/

namespace Sys2Proof.Machine

/-- The instances, each with its own copy of every element of R20 (R38). They are told apart by the host only, here by
position: the block sees no identifier (R222). -/
abbrev Links := List State

/-- Run an operation on instance `k`: the other instances are neither read nor written (R38). -/
def Links.execOn (k : Nat) (i : Instr) (links : Links) : Host.Outcome Links Fault Refusal :=
  match links[k]? with
  | none => .refused .noSuchInstance
  | some s =>
    match exec i s with
    | .next t => .next (links.set k t)
    | .fault r => .fault r
    | .refused r => .refused r

end Sys2Proof.Machine
end

