-- ==== Sys2Proof/Safety.lean ====
section
/-! DEFINITION. What claims call a good state (the invariants of spec R34), a host within the contract (R225, R251),
and what an observer sees (R214, R35). -/

namespace Sys2Proof.Machine

/-- The invariants of R34 for an initialised receiver, with the buffer's form and bounds (R27, R56), the context's
width (R29) and the bound handler (R36). -/
structure GoodState (s : State) : Prop where
  /-- (I-a): `state` is one of the six resting states. -/
  resting : s.rx.inited = true → s.rx.state ≠ .complete ∧ s.rx.state ≠ .illegal7
  /-- (I-b): an accepted length fits the buffer. -/
  lenFits : s.rx.inited = true →
    s.rx.state = .gotLength ∨ s.rx.state = .gotChecksumHigh ∨ s.rx.state = .receivingPayload →
    s.rx.pktLen.toNat ≤ s.cfg.maxLen
  /-- (I-c): while receiving payload, `count < pkt.len` (so `pkt.len ≥ 1`). -/
  countBelowLen : s.rx.inited = true → s.rx.state = .receivingPayload → s.rx.count.toNat < s.rx.pktLen.toNat
  /-- (I-d): elsewhere `count` is 0. -/
  countZero : s.rx.inited = true → s.rx.state ≠ .receivingPayload → s.rx.count = 0#8
  /-- (I-e): a frame in progress began with the marker. -/
  startIsMarker : s.rx.inited = true → s.rx.state ≠ .empty → s.rx.pktStart = s.cfg.startMarker
  /-- The payload bytes of the frame in progress have been stored (R27). -/
  storedBelowCount : s.rx.inited = true → s.rx.state = .receivingPayload →
    ∀ i < s.rx.count.toNat, (s.rx.payload.read i).isSome
  /-- The buffer keeps its canonical form. -/
  bufferCanonical : s.rx.payload.wf
  /-- No address at or above the capacity is ever written (R50, R56, R65). -/
  bufferBounded : ∀ cell ∈ s.rx.payload, cell.1 < s.cfg.maxLen
  /-- The context fits its width (R29). -/
  ctxFits : s.rx.ctx < 2 ^ s.cfg.ctxW
  /-- An initialised receiver has a handler (R36, R251). -/
  handlerBound : s.rx.inited = true → s.rx.handler.isSome

/-- The operations of R90, the ones a host can select. -/
def isOperation : Instr → Bool
  | .crcUpdate _ _ | .serialize _ _ | .rxInit _ _ | .rxReset | .rxFeedByte _ => true
  | .reservedOp5 | .reservedOp6 | .reservedOp7 => false
  | .feedEmptyStart _ | .feedEmptyOther _ | .feedGotStart _ | .feedGotTypeAccept _ | .feedGotTypeReject _ => false
  | .feedGotLength _ | .feedGotChecksumHighZero _ | .feedGotChecksumHighNonzero _ => false
  | .feedReceivingPayloadLast _ | .feedReceivingPayloadMore _ | .feedComplete _ | .feedIllegal7 _ => false
  | .completeHook | .frameHeader _ _ _ _ _ => false

/-- Operations that may be used before any `RX_INIT` (R251). -/
def allowedBeforeInit : Instr → Bool
  | .crcUpdate _ _ | .serialize _ _ | .rxInit _ _ => true
  | .rxReset | .rxFeedByte _ | .reservedOp5 | .reservedOp6 | .reservedOp7 => false
  | .feedEmptyStart _ | .feedEmptyOther _ | .feedGotStart _ | .feedGotTypeAccept _ | .feedGotTypeReject _ => false
  | .feedGotLength _ | .feedGotChecksumHighZero _ | .feedGotChecksumHighNonzero _ => false
  | .feedReceivingPayloadLast _ | .feedReceivingPayloadMore _ | .feedComplete _ | .feedIllegal7 _ => false
  | .completeHook | .frameHeader _ _ _ _ _ => false

/-- The host's next request, if any, is within the contract (R225, R251): it decodes to one of the five operations,
does not overlap another operation on the receiver, and does not use a receiver before its `RX_INIT`. -/
def WithinContract (s : State) : Prop :=
  ∀ r ∈ s.pending.head?, ∃ i, decode s.cfg r = .ok i ∧ isOperation i = true ∧
    (r.overlaps = true → drivesReceiver i = false) ∧ (s.rx.inited = false → allowedBeforeInit i = true)

/-- An event the outside can see: everything but the labels of absorbed errors (R214). -/
def visible : Event → Bool
  | .crcOut _ => true
  | .serialized _ => true
  | .dispatch _ _ => true
  | .drop _ => false

/-- Is the event a dispatch? -/
def isDispatch : Event → Bool
  | .dispatch _ _ => true
  | .crcOut _ => false
  | .serialized _ => false
  | .drop _ => false

/-- How many packets have been dispatched. -/
def dispatchCount (s : State) : Nat := s.trace.countP isDispatch

/-- The event of a validation, as R165 writes it out: a dispatch of the packet held if the checksum computed over
type, length and the first `pkt.len` payload bytes from the seed equals the received one, else the label
`ChecksumMismatch`. -/
def validationEvent (s : State) : Event :=
  if crcFold 0xFFFF#16 ([s.rx.pktType, s.rx.pktLen] ++ payloadBytes s s.rx.pktLen.toNat) = s.rx.pktCrc then
    .dispatch s.rx.handler
      { start := s.rx.pktStart, ptype := s.rx.pktType, len := s.rx.pktLen, crc := s.rx.pktCrc,
        payload := payloadBytes s s.rx.pktLen.toNat, ctx := s.rx.ctx }
  else .drop .checksumMismatch

/-- The twelve transition rows of the table, on the input byte `b` (R93). -/
def feedRows (b : Byte) : List Instr :=
  [.feedEmptyStart b, .feedEmptyOther b, .feedGotStart b, .feedGotTypeAccept b, .feedGotTypeReject b,
   .feedGotLength b, .feedGotChecksumHighZero b, .feedGotChecksumHighNonzero b, .feedReceivingPayloadLast b,
   .feedReceivingPayloadMore b, .feedComplete b, .feedIllegal7 b]

/-- The dispatch a frame of type `ptype` and payload `payload` causes at the receiver of `s`: the marker, the type, the
length, the packet checksum, the payload and the context (R137, R200). -/
def dispatchOf (s : State) (ptype : Byte) (payload : List Byte) : Event :=
  .dispatch s.rx.handler
    { start := s.cfg.startMarker, ptype := ptype, len := BitVec.ofNat 8 payload.length,
      crc := packetChecksum ptype (BitVec.ofNat 8 payload.length) payload, payload := payload, ctx := s.rx.ctx }

/-- The frame with the byte at offset `j` replaced by `v` (R178: corruption confined to one byte). -/
def corruptedFrame (c : Config) (ptype : Byte) (payload : List Byte) (j : Nat) (v : Byte) : List Byte :=
  (serializedFrame c ptype payload).set j v

/-- The frame with bit `k` of the byte at offset `j` flipped (R178, C4). -/
def flippedFrame (c : Config) (ptype : Byte) (payload : List Byte) (j k : Nat) : List Byte :=
  (serializedFrame c ptype payload).modify j (· ^^^ BitVec.twoPow 8 k)

/-- The offsets of a frame with `n` payload bytes for which the document's sensitivity claim holds, by R178: the type
byte, both checksum bytes and the payload bytes. Not the start marker, which the claim leaves out, and not the length
byte, for which R178 refutes it. -/
def sensitiveOffset (n j : Nat) : Bool := j != 0 && j != 2 && decide (j < Config.headerSize + n)

/-- An initialised receiver between frames, hunting for a start marker (R21, R34 (I-d)). -/
def Idle (s : State) : Prop := s.rx.inited = true ∧ s.rx.state = .empty ∧ s.rx.count = 0#8

/-- Two states that differ at most in hidden state (R35): stale payload bytes and stale header fields. What the frame
in progress has already written agrees, and so do the sequencing state, the handler and the context. -/
structure SameButStale (s t : State) : Prop where
  cfg : t.cfg = s.cfg
  inited : t.rx.inited = s.rx.inited
  state : t.rx.state = s.rx.state
  count : t.rx.count = s.rx.count
  handler : t.rx.handler = s.rx.handler
  ctx : t.rx.ctx = s.rx.ctx
  start : s.rx.state ≠ .empty → t.rx.pktStart = s.rx.pktStart
  ptype : s.rx.state ≠ .empty → s.rx.state ≠ .gotStart → t.rx.pktType = s.rx.pktType
  len : s.rx.state = .gotLength ∨ s.rx.state = .gotChecksumHigh ∨ s.rx.state = .receivingPayload →
    t.rx.pktLen = s.rx.pktLen
  crcLow : s.rx.state = .gotChecksumHigh → low8 t.rx.pktCrc = low8 s.rx.pktCrc
  crc : s.rx.state = .receivingPayload → t.rx.pktCrc = s.rx.pktCrc
  stored : s.rx.state = .receivingPayload → ∀ i < s.rx.count.toNat, t.rx.payload.read i = s.rx.payload.read i

end Sys2Proof.Machine
end

