-- ==== Sys2Proof/Certificates/Slice0/Obligations.lean ====
section
/-! DEFINITION. The statements for the provers. Each docstring names the rules of the spec it formalises. -/

open Sys2Proof Sys2Proof.Machine

/-! ## The Checksum Engine -/

/-- R110: `CRC_UPDATE` yields the step, with every width as the spec writes it out, for all 2^24 operand pairs and in
every state; nothing but the output is written (R110 "State written: none"). -/
def Obligations.CrcUpdateYieldsTheStep : Prop :=
  ∀ (byte : Byte) (running : Word) (s : State),
    exec (.crcUpdate byte running) s = .next { s with trace := s.trace ++ [.crcOut (
      let d : Byte := byte ^^^ running.extractLsb' 0 8
      let e : Byte := d ^^^ (d <<< 4)
      let t1 : Word := e ++ running.extractLsb' 8 8
      let t2 : Word := (e >>> 4).setWidth 16
      let t3 : Word := (e.setWidth 16) <<< 3
      t1 ^^^ t2 ^^^ t3)] } ∧
    crcUpdate 0x00#8 0x0000#16 = 0x0000#16 ∧ crcUpdate 0xFF#8 0xFFFF#16 = 0x00FF#16 ∧
    crcUpdate 0x00#8 0xFFFF#16 = 0x0F87#16 ∧ crcUpdate 0xFF#8 0x0000#16 = 0x0F78#16 ∧
    crcUpdate 0x02#8 0xFFFF#16 = 0x2C95#16

/-- R111 (its bit by bit reading, which the spec marks derived): the five slices of the new running value. -/
def Obligations.CrcUpdateBitEquations : Prop :=
  ∀ (byte : Byte) (running : Word),
    let d : Byte := byte ^^^ running.extractLsb' 0 8
    let e : Byte := d ^^^ (d <<< 4)
    let new : Word := crcUpdate byte running
    new.extractLsb' 11 5 = e.extractLsb' 3 5 ∧
    new.extractLsb' 8 3 = e.extractLsb' 0 3 ^^^ e.extractLsb' 5 3 ∧
    new.extractLsb' 4 4 = running.extractLsb' 12 4 ^^^ e.extractLsb' 1 4 ∧
    new.getLsbD 3 = (running.getLsbD 11 ^^ e.getLsbD 0 ^^ e.getLsbD 7) ∧
    new.extractLsb' 0 3 = running.extractLsb' 8 3 ^^^ e.extractLsb' 4 3

/-- R116 (a), (b): a permutation of the running values for each byte, injective in the byte for each running value. -/
def Obligations.CrcUpdatePermutesRunningValues : Prop :=
  (∀ byte : Byte, Function.Bijective (crcUpdate byte)) ∧
  (∀ running : Word, Function.Injective (fun byte => crcUpdate byte running))

/-- R116 (d): the step is linear over GF(2). -/
def Obligations.CrcUpdateIsLinear : Prop :=
  ∀ (x1 x2 : Byte) (r1 r2 : Word),
    crcUpdate (x1 ^^^ x2) (r1 ^^^ r2) = crcUpdate x1 r1 ^^^ crcUpdate x2 r2

/-- R116 (e): the step equals eight rounds of the bit-serial recurrence with 0x8408. -/
def Obligations.CrcUpdateEqualsBitSerialRounds : Prop :=
  ∀ (byte : Byte) (running : Word), crcUpdate byte running = bitSerialStep byte running

/-- R116 (f): the data followed by its checksum, low byte first, folds to 0. -/
def Obligations.FoldWithItsChecksumIsZero : Prop :=
  ∀ (r : Word) (s : List Byte),
    crcFold r (s ++ [low8 (crcFold r s), high8 (crcFold r s)]) = 0#16

/-- R116 (c): two sequences that differ in exactly one byte have different folds. -/
def Obligations.OneChangedByteChangesTheFold : Prop :=
  ∀ (r : Word) (x y : List Byte) (b b' : Byte), b ≠ b' → crcFold r (x ++ b :: y) ≠ crcFold r (x ++ b' :: y)

/-- R113, R118: a checksum accumulated as the type, the length and the payload bytes arrive, in any two portions, is
the packet checksum recomputed at the end. -/
def Obligations.AccumulatedChecksumEqualsRecomputed : Prop :=
  ∀ (t len : Byte) (x y : List Byte),
    crcFold (crcFold (crcUpdate len (crcUpdate t 0xFFFF#16)) x) y = packetChecksum t len (x ++ y)

/-! ## The Serializer -/

/-- R130, R132: `SERIALIZE` answers in every state; a payload that fits gives the frame in the order of R132 with the
checksum of R114, a longer one gives the error; no state is written. -/
def Obligations.SerializeFramesOrRejects : Prop :=
  ∀ (t : Byte) (p : List Byte) (s : State),
    exec (.serialize t p) s = .next { s with trace := s.trace ++ [.serialized (
      if p.length > s.cfg.maxPayloadSize.val then .err .oversizedPayload
      else
        let len : Byte := BitVec.ofNat 8 p.length
        let crc : Word := crcFold 0xFFFF#16 ([t, len] ++ p)
        .ok ([s.cfg.startMarker, t, len, crc.extractLsb' 0 8, crc.extractLsb' 8 8] ++ p))] }

/-- R131: an oversized payload is an error of code 1, reports 0 bytes, writes no byte of the caller's buffer, and
writes no state. -/
def Obligations.OversizedPayloadWritesNothing : Prop :=
  ∀ (t : Byte) (p buffer : List Byte) (s : State), s.cfg.maxPayloadSize.val < p.length →
    exec (.serialize t p) s = .next { s with trace := s.trace ++ [.serialized (.err .oversizedPayload)] } ∧
    errorCode (serError (serialize s.cfg t p)) = 1 ∧
    serNBytes (serialize s.cfg t p) = 0 ∧
    serializeInto s.cfg t p buffer = some (buffer, 0)

/-- R133 and R63: on success exactly `5 + n` bytes are reported and written, the first `5 + n` of the caller's buffer;
every other byte of it stays. -/
def Obligations.SerializeWritesItsFrameOnly : Prop :=
  ∀ (c : Config) (t : Byte) (p buffer : List Byte), p.length ≤ c.maxPayloadSize.val → 5 + p.length ≤ buffer.length →
    serNBytes (serialize c t p) = 5 + p.length ∧
    ∃ out frame, serialize c t p = .ok frame ∧ serializeInto c t p buffer = some (out, 5 + p.length) ∧
      out.length = buffer.length ∧ out.take (5 + p.length) = frame ∧
      ∀ i, 5 + p.length ≤ i → out[i]? = buffer[i]?

/-- R136: no frame is emitted whose declared length differs from its payload count. -/
def Obligations.DeclaredLengthIsPayloadCount : Prop :=
  ∀ (c : Config) (t : Byte) (p frame : List Byte), serialize c t p = .ok frame →
    ∃ len : Byte, frame[2]? = some len ∧ frame.length = 5 + len.toNat ∧ frame.drop 5 = p

/-! ## Initialisation and reset -/

/-- R150: `RX_INIT`, with a context of the `CTX_W` bits its operand has (R29, R91), answers in every state and writes
`inited`, `handler`, `ctx`, `state`, `count`, also where a frame was in progress. That `pkt.*` and the buffer, which
R36 calls unspecified afterwards, are as before is the model's choice (log entry 15). -/
def Obligations.RxInitConstructsTheReceiver : Prop :=
  ∀ (h ctx : Nat) (s : State), ctx < 2 ^ s.cfg.ctxW →
    exec (.rxInit h ctx) s = .next { s with rx := { s.rx with
      inited := true, handler := some h, ctx := ctx, state := .empty, count := 0#8 } }

/-- R151, R152: `RX_RESET` on an initialised receiver writes `state` and `count` only: no dispatch, no label, handler and
context kept, the packet and the buffer as they were. That this is so at the state value 7 too is the model's choice
(log entry 19). R216: a reset presented together with a byte does the same, and the byte is not consumed (in the model a
function that no step uses: log entry 18). -/
def Obligations.RxResetReturnsToEmpty : Prop :=
  ∀ s : State, s.rx.inited = true →
    exec .rxReset s = .next { s with rx := { s.rx with state := .empty, count := 0#8 } } ∧
    ∀ b : Byte, execResetWithByte b s = .next { s with rx := { s.rx with state := .empty, count := 0#8 } }

/-- R173: `RX_FEED_BYTE` and `RX_RESET` on an instance never initialised are refused. -/
def Obligations.UninitialisedReceiverIsRefused : Prop :=
  ∀ (s : State) (b : Byte), s.rx.inited = false →
    exec .rxReset s = .refused .notInitialised ∧ exec (.rxFeedByte b) s = .refused .notInitialised

/-! ## The transition rows: the whole next state of each, which is also its frame -/

/-- R154, R155: the two `Empty` rows. The marker is recorded and opens an attempt; any other byte writes nothing. -/
def Obligations.EmptyRowsHuntForTheMarker : Prop :=
  ∀ (s : State) (b : Byte), s.rx.inited = true → s.rx.state = .empty →
    (b = s.cfg.startMarker → exec (.feedEmptyStart b) s =
      .next { s with rx := { s.rx with pktStart := b, state := .gotStart } }) ∧
    (b ≠ s.cfg.startMarker → exec (.feedEmptyOther b) s = .next s)

/-- R156, R157, R159: the type, an accepted length, and the first checksum byte, which is the LOW one. -/
def Obligations.HeaderRowsRecordTheirByte : Prop :=
  ∀ (s : State) (b : Byte), s.rx.inited = true →
    (s.rx.state = .gotStart → exec (.feedGotStart b) s =
      .next { s with rx := { s.rx with pktType := b, state := .gotType } }) ∧
    (s.rx.state = .gotType → b.toNat ≤ s.cfg.maxPayloadSize.val → exec (.feedGotTypeAccept b) s =
      .next { s with rx := { s.rx with pktLen := b, state := .gotLength } }) ∧
    (s.rx.state = .gotLength → exec (.feedGotLength b) s =
      .next { s with rx := { s.rx with pktCrc := s.rx.pktCrc.extractLsb' 8 8 ++ b, state := .gotChecksumHigh } })

/-- R158: a length byte above the maximum is the absorbed error: the label, `state` and `count`, and nothing else; the
length is not stored and the byte is not taken for a marker, even if it equals it. -/
def Obligations.OversizedLengthIsDropped : Prop :=
  ∀ (s : State) (b : Byte), s.rx.inited = true → s.rx.state = .gotType → s.cfg.maxPayloadSize.val < b.toNat →
    exec (.feedGotTypeReject b) s = .next { s with
      rx := { s.rx with state := .empty, count := 0#8 }, trace := s.trace ++ [.drop .invalidLengthField] }

/-- R160, R161: the second checksum byte is the HIGH one; with no payload the frame is validated in the same operation,
otherwise the payload is awaited. -/
def Obligations.ChecksumHighRows : Prop :=
  ∀ (s : State) (b : Byte), s.rx.inited = true → s.rx.state = .gotChecksumHigh →
    (s.rx.pktLen = 0#8 →
      let p : State := { s with rx := { s.rx with pktCrc := b ++ s.rx.pktCrc.extractLsb' 0 8 } }
      exec (.feedGotChecksumHighZero b) s = .next { p with
        rx := { p.rx with state := .empty, count := 0#8 }, trace := p.trace ++ [validationEvent p] }) ∧
    (s.rx.pktLen ≠ 0#8 → exec (.feedGotChecksumHighNonzero b) s = .next { s with rx := { s.rx with
      pktCrc := b ++ s.rx.pktCrc.extractLsb' 0 8, state := .receivingPayload } })

/-- R162, R163: the payload byte goes to index `count`, `count` goes up; the last byte is validated in the same
operation. The index is one the buffer has, as R34 says of every state a run reaches. The second clause covers
`count + 1 > pkt.len` too, where R163's own condition is `count + 1 < pkt.len`: the model's reading (log entry 12). -/
def Obligations.PayloadRowsAppend : Prop :=
  ∀ (s : State) (b : Byte), s.rx.inited = true → s.rx.state = .receivingPayload →
    s.rx.count.toNat < s.cfg.maxPayloadSize.val →
    (s.rx.count + 1#8 = s.rx.pktLen →
      let p : State := { s with rx := { s.rx with
        payload := s.rx.payload.write s.rx.count.toNat b, count := s.rx.count + 1#8 } }
      exec (.feedReceivingPayloadLast b) s = .next { p with
        rx := { p.rx with state := .empty, count := 0#8 }, trace := p.trace ++ [validationEvent p] }) ∧
    (s.rx.count + 1#8 ≠ s.rx.pktLen → exec (.feedReceivingPayloadMore b) s = .next { s with rx := { s.rx with
      payload := s.rx.payload.write s.rx.count.toNat b, count := s.rx.count + 1#8 } })

/-- R50: the payload buffer has no index `MAX_PAYLOAD_SIZE` or above. A row that would store there and a hook that would
read there stop with the bounds fault (log entry 11; R56 derives that no run comes to this, and
`NoBoundsFaultFromGoodStates` says so). -/
def Obligations.BufferHasNoIndexBeyondItsCapacity : Prop :=
  ∀ (s : State) (b : Byte), s.rx.inited = true →
    (s.rx.state = .receivingPayload → s.cfg.maxPayloadSize.val ≤ s.rx.count.toNat →
      exec (.rxFeedByte b) s = .fault .payloadOutOfBounds ∧
      (s.rx.count + 1#8 = s.rx.pktLen → exec (.feedReceivingPayloadLast b) s = .fault .payloadOutOfBounds) ∧
      (s.rx.count + 1#8 ≠ s.rx.pktLen → exec (.feedReceivingPayloadMore b) s = .fault .payloadOutOfBounds)) ∧
    (s.rx.state = .complete → s.cfg.maxPayloadSize.val < s.rx.pktLen.toNat →
      exec .completeHook s = .fault .payloadOutOfBounds ∧ exec (.feedComplete b) s = .fault .payloadOutOfBounds)

/-- R165: the hook validates the packet held, dispatches it or drops it, and returns to `Empty` in both cases. The
length is one the buffer can hold, as R34 (I-b) says. -/
def Obligations.CompleteHookValidatesAndDispatches : Prop :=
  ∀ s : State, s.rx.inited = true → s.rx.state = .complete → s.rx.pktLen.toNat ≤ s.cfg.maxPayloadSize.val →
    exec .completeHook s = .next { s with
      rx := { s.rx with state := .empty, count := 0#8 }, trace := s.trace ++ [validationEvent s] }

/-- R164, the defensive row: the hook without consuming `b`, then `b` as a byte met in `Empty`. -/
def Obligations.CompleteRowReprocessesTheByte : Prop :=
  ∀ (s : State) (b : Byte), s.rx.inited = true → s.rx.state = .complete →
    s.rx.pktLen.toNat ≤ s.cfg.maxPayloadSize.val →
    let t : State := { s with
      rx := { s.rx with state := .empty, count := 0#8 }, trace := s.trace ++ [validationEvent s] }
    exec (.feedComplete b) s = .next
      (if b = s.cfg.startMarker then { t with rx := { t.rx with pktStart := b, state := .gotStart } } else t) ∧
    exec (.rxFeedByte b) s = exec (.feedComplete b) s

/-- R172: the state value 7 is refused, by `RX_FEED_BYTE` and by its row, whose meaning stops on every path. -/
def Obligations.IllegalStateIsRefused : Prop :=
  ∀ (s : State) (b : Byte),
    (s.rx.inited = true → s.rx.state = .illegal7 →
      exec (.rxFeedByte b) s = .refused .illegalState ∧ exec (.feedIllegal7 b) s = .refused .illegalState) ∧
    (∃ r, exec (.feedIllegal7 b) s = .refused r)

/-- R92: the select codes 5, 6 and 7 are refused. That a request's bits above
`op[2:0]` and its operand bytes are not looked at is the model's layout (log entry 4). -/
def Obligations.ReservedSelectsAreRefused : Prop :=
  (∀ s : State, exec .reservedOp5 s = .refused .reservedSelect ∧ exec .reservedOp6 s = .refused .reservedSelect ∧
    exec .reservedOp7 s = .refused .reservedSelect) ∧
  ∀ (s : State) (r : Request) (sel : Byte) (args : List Byte), s.pending.head? = some r →
    r.format = .opSelect → r.bytes = sel :: args → 5 ≤ sel.toNat % 8 → step s = .refused .reservedSelect

/-! ## The byte step -/

/-- R153 against R93: on an initialised receiver `RX_FEED_BYTE(b)` does what the row does that the decode table selects
from the state, the byte, `pkt.len` and `count`. (Where `count + 1 > pkt.len`, which cannot occur, the row taken is the
`else` of R153: log entry 12.) -/
def Obligations.RxFeedByteRunsTheSelectedRow : Prop :=
  ∀ (s : State) (b : Byte), s.rx.inited = true →
    exec (.rxFeedByte b) s = exec (decodeRow s.cfg (stateCode s.rx.state) b s.rx.pktLen s.rx.count) s

/-- R93: of the twelve rows exactly one is selected in every state of an initialised receiver, the one the decode table
gives. (The table's `count + 1 < pkt.len` is read as the `else` of R153: log entry 12.) The other rows, the hook outside
`Complete`, and all of them before `RX_INIT`, are refused by name (the model's reading: log entry 5). -/
def Obligations.ExactlyOneRowIsSelected : Prop :=
  ∀ (s : State) (b : Byte),
    (s.rx.inited = true → ∀ i ∈ feedRows b, exec i s ≠ .refused .rowNotSelected ↔
      i = decodeRow s.cfg (stateCode s.rx.state) b s.rx.pktLen s.rx.count) ∧
    (s.rx.inited = true → s.rx.state ≠ .complete → exec .completeHook s = .refused .rowNotSelected) ∧
    (s.rx.inited = false → ∀ i ∈ feedRows b ++ [.completeHook], exec i s = .refused .notInitialised)

/-- R153 with its frame: from every good state of an initialised receiver `RX_FEED_BYTE(b)` answers a next state, at
rest, with at most one event more; the parameters, the host's list, handler, context and `inited` are as before, and
every byte of the buffer but the one at `count` in `ReceivingPayload`. -/
def Obligations.RxFeedByteCompletes : Prop :=
  ∀ (s : State) (b : Byte), GoodState s → s.rx.inited = true →
    ∃ t, exec (.rxFeedByte b) s = .next t ∧ t.rx.state ≠ .complete ∧ t.rx.state ≠ .illegal7 ∧
      (t.trace = s.trace ∨ ∃ e, t.trace = s.trace ++ [e]) ∧ t.cfg = s.cfg ∧ t.pending = s.pending ∧
      t.rx.handler = s.rx.handler ∧ t.rx.ctx = s.rx.ctx ∧ t.rx.inited = true ∧
      (∀ a, (s.rx.state ≠ .receivingPayload ∨ a ≠ s.rx.count.toNat) → t.rx.payload.read a = s.rx.payload.read a) ∧
      (s.rx.state = .receivingPayload → t.rx.payload.read s.rx.count.toNat = some b)

/-- R166 (b): whatever state it began in, an `RX_FEED_BYTE` that completes leaves neither `Complete` nor 7 behind. -/
def Obligations.FeedNeverRestsInComplete : Prop :=
  ∀ (s t : State) (b : Byte), exec (.rxFeedByte b) s = .next t →
    t.rx.state ≠ .complete ∧ t.rx.state ≠ .illegal7

/-- R216, R177: one `RX_FEED_BYTE` from a resting state emits at most one event, and which one it can be is fixed by the
state it began in; a dispatch only where the checksums agree. -/
def Obligations.EachFeedEmitsAtMostOneEvent : Prop :=
  ∀ (s t : State) (b : Byte), GoodState s → exec (.rxFeedByte b) s = .next t →
    t.trace = s.trace ∨ ∃ e, t.trace = s.trace ++ [e] ∧
      ((e = .drop .invalidLengthField ∧ s.rx.state = .gotType ∧ s.cfg.maxPayloadSize.val < b.toNat) ∨
       ((s.rx.state = .gotChecksumHigh ∧ s.rx.pktLen = 0#8 ∨
         s.rx.state = .receivingPayload ∧ s.rx.count.toNat + 1 = s.rx.pktLen.toNat) ∧ t.rx.state = .empty ∧
        (e = .drop .checksumMismatch ∨
         ∃ d, e = .dispatch s.rx.handler d ∧ d.crc = crcFold 0xFFFF#16 ([d.ptype, d.len] ++ d.payload))))

/-! ## Feeding sequences -/

/-- R62: the state after and the events depend on the bytes in order, never on how they were grouped into calls. -/
def Obligations.ChunkingIsNotObservable : Prop :=
  ∀ (chunks : List (List Byte)) (s : State),
    chunks.foldl (fun o chunk => andThen o (rxFeed chunk)) (.next s) = rxFeed chunks.flatten s

/-- R155: bytes between frames that are not the marker change nothing at all. -/
def Obligations.NoiseBetweenFramesIsIgnored : Prop :=
  ∀ (s : State) (noise : List Byte), s.rx.inited = true → s.rx.state = .empty →
    (∀ b ∈ noise, b ≠ s.cfg.startMarker) → rxFeed noise s = .next s

/-- R177: from `Empty`, fewer than five bytes never dispatch, so five lie between two dispatches. -/
def Obligations.NoDispatchWithinFourBytes : Prop :=
  ∀ (s t : State) (bytes : List Byte), s.rx.state = .empty → bytes.length < 5 → rxFeed bytes s = .next t →
    dispatchCount t = dispatchCount s

/-- R170, R163: inside the payload every byte is data, the start marker and whole frames too. Bytes that do not complete
the frame in progress are stored one after another from index `count`, with no event, and the receiver stays in
`ReceivingPayload`. -/
def Obligations.BytesInsidePayloadAreData : Prop :=
  ∀ (s : State) (bytes : List Byte), s.rx.inited = true → s.rx.state = .receivingPayload →
    s.rx.count.toNat + bytes.length < s.rx.pktLen.toNat → s.rx.pktLen.toNat ≤ s.cfg.maxPayloadSize.val →
    ∃ t, rxFeed bytes s = .next t ∧ t.rx.state = .receivingPayload ∧
      t.rx.count.toNat = s.rx.count.toNat + bytes.length ∧ t.trace = s.trace ∧ t.rx.pktLen = s.rx.pktLen ∧
      (∀ i < bytes.length, t.rx.payload.read (s.rx.count.toNat + i) = bytes[i]?) ∧
      (∀ a, a < s.rx.count.toNat ∨ s.rx.count.toNat + bytes.length ≤ a →
        t.rx.payload.read a = s.rx.payload.read a)

/-- R80, R93: `FRAME_HEADER` is the five header bytes consumed in order; and from an idle receiver, with the marker and
a length that fits, it ends awaiting the payload, or, with length 0, validated. -/
def Obligations.FrameHeaderIsConsumedInOrder : Prop :=
  (∀ (s : State) (m t l lo hi : Byte), exec (.frameHeader m t l lo hi) s =
    andThen (andThen (andThen (andThen (exec (.rxFeedByte m) s) (exec (.rxFeedByte t))) (exec (.rxFeedByte l)))
      (exec (.rxFeedByte lo))) (exec (.rxFeedByte hi))) ∧
  ∀ (s : State) (m t l lo hi : Byte), Idle s → m = s.cfg.startMarker → l.toNat ≤ s.cfg.maxPayloadSize.val →
    let p : State := { s with rx := { s.rx with pktStart := m, pktType := t, pktLen := l, pktCrc := hi ++ lo } }
    (l ≠ 0#8 → exec (.frameHeader m t l lo hi) s =
      .next { p with rx := { p.rx with state := .receivingPayload } }) ∧
    (l = 0#8 → exec (.frameHeader m t l lo hi) s = .next { p with trace := p.trace ++ [validationEvent p] })

/-- R137 (with R119, R252): a frame serialized by any build with the same start marker, of a payload both sides' maximum
allows, fed to an idle receiver, causes exactly one event, the dispatch of its type, length and payload with the
receiver's context, and leaves the receiver idle. -/
def Obligations.SerializedFrameIsDispatchedOnce : Prop :=
  ∀ (c : Config) (s : State) (t : Byte) (payload frame : List Byte), Idle s →
    c.startMarker = s.cfg.startMarker → payload.length ≤ s.cfg.maxPayloadSize.val →
    serialize c t payload = .ok frame →
    ∃ u, rxFeed frame s = .next u ∧ u.trace = s.trace ++ [dispatchOf s t payload] ∧ Idle u ∧
      u.cfg = s.cfg ∧ u.pending = s.pending ∧ u.rx.handler = s.rx.handler ∧ u.rx.ctx = s.rx.ctx

/-- R86, R166 (c): frames back to back, with no gap, are all dispatched, in order. -/
def Obligations.BackToBackFramesAreAllDispatched : Prop :=
  ∀ (packets : List (Byte × List Byte)) (s : State), Idle s →
    (∀ p ∈ packets, p.2.length ≤ s.cfg.maxPayloadSize.val) →
    ∃ u, rxFeed (packets.flatMap fun p => serializedFrame s.cfg p.1 p.2) s = .next u ∧
      u.trace = s.trace ++ packets.map (fun p => dispatchOf s p.1 p.2) ∧ Idle u

/-- The same through the machine's step: from any state, the host's operations `RX_INIT` and then `RX_FEED_BYTE` on each
byte of a serialized frame, run one a step, dispatch the packet once, to that handler with that context (P1). -/
def Obligations.HostProgramDeliversTheFrame : Prop :=
  ∀ (s : State) (h ctx : Nat) (t : Byte) (payload frame : List Byte), serialize s.cfg t payload = .ok frame →
    ∃ u, Sys2Proof.core.run (1 + frame.length) { s with
        pending := encode (.rxInit h ctx) :: frame.map (fun b => encode (.rxFeedByte b)) } = .next u ∧
      u.pending = [] ∧ Idle u ∧
      u.trace = s.trace ++ [.dispatch (some h)
        { start := s.cfg.startMarker, ptype := t, len := BitVec.ofNat 8 payload.length,
          crc := packetChecksum t (BitVec.ofNat 8 payload.length) payload, payload := payload,
          ctx := ctx % 2 ^ s.cfg.ctxW }]

/-- R176: an oversized length byte is dropped, and a valid frame right after it is dispatched, once. -/
def Obligations.ResynchronisesAfterBadLength : Prop :=
  ∀ (s : State) (t x t' : Byte) (payload : List Byte), Idle s → s.cfg.maxPayloadSize.val < x.toNat →
    payload.length ≤ s.cfg.maxPayloadSize.val →
    (∃ v, rxFeed [s.cfg.startMarker, t, x] s = .next v ∧ Idle v ∧ dispatchCount v = dispatchCount s) ∧
    ∃ u, rxFeed ([s.cfg.startMarker, t, x] ++ serializedFrame s.cfg t' payload) s = .next u ∧ Idle u ∧
      u.trace = s.trace ++ [.drop .invalidLengthField, dispatchOf s t' payload]

/-- R178 as far as it is true: any change of one byte of a frame other than the marker and the length byte, a flipped bit
among them, suppresses the dispatch; the frame is dropped and the receiver is idle again. -/
def Obligations.OneCorruptedByteSuppressesDispatch : Prop :=
  ∀ (s : State) (t : Byte) (payload : List Byte) (j : Nat), Idle s →
    payload.length ≤ s.cfg.maxPayloadSize.val → sensitiveOffset payload.length j = true →
    (∀ v, (serializedFrame s.cfg t payload)[j]? ≠ some v →
      ∃ u, rxFeed (corruptedFrame s.cfg t payload j v) s = .next u ∧ Idle u ∧
        u.trace = s.trace ++ [.drop .checksumMismatch]) ∧
    (∀ k < 8, ∃ u, rxFeed (flippedFrame s.cfg t payload j k) s = .next u ∧ Idle u ∧
      u.trace = s.trace ++ [.drop .checksumMismatch])

/-- R178, C4: it does not hold for the length byte. The spec's counterexample, at the example constants: bit 1 of the
length byte flipped, and the five bytes received so far are dispatched. -/
def Obligations.FlippedLengthBitCanDispatch : Prop :=
  ∀ s : State, Idle s → s.cfg.startMarker = 0xA1#8 → s.cfg.maxPayloadSize = 200 →
    serialize s.cfg 0x02#8 [0xE7#8, 0x1F#8] = .ok [0xA1#8, 0x02#8, 0x02#8, 0x08#8, 0xC3#8, 0xE7#8, 0x1F#8] ∧
    flippedFrame s.cfg 0x02#8 [0xE7#8, 0x1F#8] 2 1 = [0xA1#8, 0x02#8, 0x00#8, 0x08#8, 0xC3#8, 0xE7#8, 0x1F#8] ∧
    ∃ u, rxFeed (flippedFrame s.cfg 0x02#8 [0xE7#8, 0x1F#8] 2 1) s = .next u ∧
      u.trace = s.trace ++ [dispatchOf s 0x02#8 []]

/-! ## Rules of the whole machine -/

/-- R34, with R27, R29, R36 and R56: every step keeps the invariants. -/
def Obligations.EveryStepKeepsTheInvariants : Prop :=
  ∀ s t : State, GoodState s → step s = .next t → GoodState t

/-- R36, R250: before the first `RX_INIT` the instance is not initialised and its handler is unbound; the invariants
hold. (The other registers' values are the model's: log entry 2; nothing is said of them.) -/
def Obligations.ResetStateIsUninitialised : Prop :=
  State.reset.rx.inited = false ∧ State.reset.rx.handler = none ∧ GoodState State.reset

/-- R225, R251, R217: a host that keeps the contract is never stopped: from every good state its next operation answers a
next state (and with none issued too). -/
def Obligations.ContractedHostIsNeverStopped : Prop :=
  ∀ s : State, GoodState s → WithinContract s → ∃ t, step s = .next t

/-- R56: no operation on a good state reaches a byte the buffer does not have. -/
def Obligations.NoBoundsFaultFromGoodStates : Prop :=
  ∀ (i : Instr) (s : State) (r : Fault), GoodState s → exec i s ≠ .fault r

/-- R28, R29, R30, R39: no instruction but `RX_INIT` writes the handler, the context or `inited`; none writes the
parameters. -/
def Obligations.OnlyInitBindsHandlerAndContext : Prop :=
  ∀ (i : Instr) (s t : State), exec i s = .next t → t.cfg = s.cfg ∧ t.pending = s.pending ∧
    ((∀ h ctx, i ≠ .rxInit h ctx) →
      t.rx.handler = s.rx.handler ∧ t.rx.ctx = s.rx.ctx ∧ t.rx.inited = s.rx.inited)

/-- R56: the frame of every instruction on the buffer. One byte is stored, at index `count`, and only in
`ReceivingPayload` by `RX_FEED_BYTE` or its two rows; every other byte reads as before. (`FRAME_HEADER` is five
`RX_FEED_BYTE`s: `FrameHeaderIsConsumedInOrder`.) -/
def Obligations.BufferIsWrittenAtCountOnly : Prop :=
  ∀ (i : Instr) (s t : State), exec i s = .next t → (∀ m x l lo hi, i ≠ .frameHeader m x l lo hi) →
    (∀ a, (s.rx.state ≠ .receivingPayload ∨ a ≠ s.rx.count.toNat) → t.rx.payload.read a = s.rx.payload.read a) ∧
    (s.rx.state = .receivingPayload → ∀ b, (i = .rxFeedByte b ∨ i = .feedReceivingPayloadLast b ∨
      i = .feedReceivingPayloadMore b) → t.rx.payload.read s.rx.count.toNat = some b)

/-- R202, R64: what has been dispatched is never changed by a later operation: every event stays as it was emitted. -/
def Obligations.EmittedEventsNeverChange : Prop :=
  ∀ (i : Instr) (s t : State), exec i s = .next t → ∃ events, t.trace = s.trace ++ events

/-- R200, R201, R203, R207: every packet dispatched by any instruction from a good state starts with the marker, has a
length the maximum allows, exactly that many payload bytes, the checksum of its type, length and payload, the
receiver's context, and goes to the receiver's handler. -/
def Obligations.EveryDispatchIsAValidPacket : Prop :=
  ∀ (i : Instr) (s t : State) (events : List Event) (h : Option Nat) (d : Dispatch), GoodState s →
    exec i s = .next t → t.trace = s.trace ++ events → .dispatch h d ∈ events →
    h = s.rx.handler ∧ d.start = s.cfg.startMarker ∧ d.len.toNat ≤ s.cfg.maxPayloadSize.val ∧
    d.payload.length = d.len.toNat ∧ d.crc = packetChecksum d.ptype d.len d.payload ∧ d.ctx = s.rx.ctx

/-- R35, R27: hidden state is never shown. Two good states that differ only in stale header fields and stale payload
bytes answer every instruction alike: the same events, and again states that differ in nothing but what is stale. -/
def Obligations.StaleStateIsNeverExposed : Prop :=
  ∀ (i : Instr) (s s' t : State), GoodState s → GoodState s' → SameButStale s s' → exec i s = .next t →
    ∃ t' events, exec i s' = .next t' ∧ SameButStale t t' ∧
      t.trace = s.trace ++ events ∧ t'.trace = s'.trace ++ events

/-- R59, R33: `CRC_UPDATE` and `SERIALIZE` commute with every operation: in either order both complete, the receiver ends
the same, and each yields the same events. -/
def Obligations.StatelessOperationsCommute : Prop :=
  ∀ (i j : Instr) (s s1 t : State), ((∃ b r, i = .crcUpdate b r) ∨ ∃ ty p, i = .serialize ty p) →
    exec i s = .next s1 → exec j s1 = .next t →
    ∃ s2 t' e events, exec j s = .next s2 ∧ exec i s2 = .next t' ∧ t'.rx = t.rx ∧ t'.cfg = t.cfg ∧
      t'.pending = t.pending ∧ t.trace = s.trace ++ e :: events ∧ t'.trace = s.trace ++ events ++ [e]

/-- R38: an operation on one instance neither reads nor writes another: the others stay, and what it does to its own
does not depend on them. -/
def Obligations.InstancesAreIndependent : Prop :=
  ∀ (k : Nat) (i : Instr) (links links' after : Links), Links.execOn k i links = .next after →
    (∀ j, j ≠ k → after[j]? = links[j]?) ∧
    (links'[k]? = links[k]? → ∃ after', Links.execOn k i links' = .next after' ∧ after'[k]? = after[k]?)

/-! ## Issuing operations -/

/-- R171: with no operation issued nothing changes, for any length of time. -/
def Obligations.IdleBlockChangesNothing : Prop :=
  ∀ (s : State) (k : Nat), s.pending = [] → Sys2Proof.core.run k s = .next s

/-- A step runs the decoded instruction: where the host's next request decodes to `i`, and does not overlap an operation
on the receiver, the step is `exec i` on the state with that request taken off the list (R8, R59). -/
def Obligations.StepRunsTheDecodedInstruction : Prop :=
  ∀ (s : State) (r : Request) (rest : List Request) (i : Instr), s.pending = r :: rest →
    decode s.cfg r = .ok i → (r.overlaps = true → drivesReceiver i = false) →
    step s = exec i { s with pending := rest }

/-- R174, R205: an operation on the receiver, or a row or the hook of one, presented while another on the same receiver
is in progress, is refused; `CRC_UPDATE` and `SERIALIZE` are not, so a handler may use them. (How an overlap comes in is
log entry 10.) -/
def Obligations.OverlappingReceiverOperationIsRefused : Prop :=
  ∀ (s : State) (r : Request) (i : Instr), s.pending.head? = some r → decode s.cfg r = .ok i →
    r.overlaps = true →
    ((∃ h ctx, i = .rxInit h ctx) ∨ i = .rxReset ∨ (∃ b, i = .rxFeedByte b) ∨ (∃ b, i ∈ feedRows b) ∨
      i = .completeHook ∨ (∃ m t l lo hi, i = .frameHeader m t l lo hi) → step s = .refused .overlappingOperation) ∧
    ((∃ b run, i = .crcUpdate b run) ∨ (∃ t p, i = .serialize t p) → ∃ u, step s = .next u ∧ u.rx = s.rx)

/-- R135: a `SERIALIZE` request that supplies fewer payload bytes than `ser_len` declares is refused; one that supplies as
many or more is the `SERIALIZE` of the first `ser_len` of them (the surplus is the model's reading: log entry 17).
The decoder's other rejections, in the layout of log entry 4: an operand byte that is missing, a transition word, hook
word or header that is not of its exact length, and a hook word of another code than 6. -/
def Obligations.RequestsThatAreNoInstructionAreRefused : Prop :=
  ∀ (s : State) (r : Request), s.pending.head? = some r →
    (∀ (sel t lo hi : Byte) (p : List Byte), r.format = .opSelect → sel.toNat % 8 = 1 →
      r.bytes = sel :: t :: lo :: hi :: p →
      (p.length < (hi ++ lo : Word).toNat → step s = .refused .payloadShort) ∧
      ((hi ++ lo : Word).toNat ≤ p.length →
        decode s.cfg r = .ok (.serialize t (p.take (hi ++ lo : Word).toNat)))) ∧
    (r.format = .opSelect → r.bytes = [] → step s = .refused (.malformedRequest .missingOperand)) ∧
    (∀ (sel : Byte) (args : List Byte), r.format = .opSelect → r.bytes = sel :: args →
      (sel.toNat % 8 = 0 ∧ args.length < 3 ∨ sel.toNat % 8 = 1 ∧ args.length < 3 ∨
        sel.toNat % 8 = 4 ∧ args.length < 1) → step s = .refused (.malformedRequest .missingOperand)) ∧
    (r.format = .rxTransition → r.bytes.length ≠ 4 → step s = .refused (.malformedRequest .wrongLength)) ∧
    (r.format = .internal → r.bytes.length ≠ 1 → step s = .refused (.malformedRequest .wrongLength)) ∧
    (r.format = .wireFrame → r.bytes.length ≠ 5 → step s = .refused (.malformedRequest .wrongLength)) ∧
    (∀ st : Byte, r.format = .internal → r.bytes = [st] → st.toNat % 8 ≠ 6 →
      step s = .refused (.malformedRequest .noSuchRow))

/-! ## Encoding -/

/-- R90, R93, R80: decode and encode agree on every well-formed instruction, every operand at every value. -/
def Obligations.DecodeOfEncodeIsTheInstruction : Prop :=
  ∀ (c : Config) (i : Instr), i.wf c = true → decode c (encode i) = .ok i

/-- Whatever the decoder gives is well formed (R91, R93, R135). -/
def Obligations.DecodedInstructionsAreWellFormed : Prop :=
  ∀ (c : Config) (r : Request) (i : Instr), decode c r = .ok i → i.wf c = true

/-- R90, R92, R80: words written out bit by bit decode to the instructions they stand for. The select codes are R90's and
R92's, the header is written as R80 writes its pattern, first byte leftmost; that an operand byte stands above the select
byte, low byte first, is the model's layout (log entry 4). -/
def Obligations.WrittenOutWordsDecode : Prop :=
  decodeTableWord 32 0b11111111_11111111_00000010_00000000 = some (.crcUpdate 0x02#8 0xFFFF#16) ∧
  decodeTableWord 32 0b00000000_00000000_00000101_00000001 = some (.serialize 0x05#8 []) ∧
  decodeTableWord 8 0b00000011 = some .rxReset ∧
  decodeTableWord 16 0b10100001_00000100 = some (.rxFeedByte 0xA1#8) ∧
  decodeTableWord 8 0b00000101 = some .reservedOp5 ∧
  decodeTableWord 40 0b10100001_00000010_00000010_01111100_00111011 =
    some (.frameHeader 0xA1#8 0x02#8 0x02#8 0x7C#8 0x3B#8)

/-- R97: the codes 0 for no error and 1, 2, 3 for the three conditions; the receiver states are 0 to 7 in the document's
order (R21). -/
def Obligations.ErrorAndStateCodes : Prop :=
  errorCode none = 0 ∧ errorCode (some .oversizedPayload) = 1 ∧ errorCode (some .invalidLengthField) = 2 ∧
  errorCode (some .checksumMismatch) = 3 ∧
  [RxState.empty, .gotStart, .gotType, .gotLength, .gotChecksumHigh, .receivingPayload, .complete, .illegal7].map
    stateCode = [0, 1, 2, 3, 4, 5, 6, 7]
end

