-- ==== Sys2Proof/Laws/Checksum.lean ====
section
/-! SUPPORT. The halves of the 16-bit checksum, and the equations of the fold. -/

namespace Sys2Proof.Machine

theorem low8_getLsbD (v : Word) {i : Nat} (h : i < 8) : (low8 v).getLsbD i = v.getLsbD i := by
  simp [low8, h]

theorem high8_getLsbD (v : Word) {i : Nat} (h : i < 8) : (high8 v).getLsbD i = v.getLsbD (8 + i) := by
  simp [high8, h]

theorem joinBytes_getLsbD (hi lo : Byte) (i : Nat) :
    (joinBytes hi lo).getLsbD i = if i < 8 then lo.getLsbD i else hi.getLsbD (i - 8) := by
  simp only [joinBytes, BitVec.getLsbD_append]

theorem zext16_getLsbD (v : Byte) {i : Nat} (h : i < 16) : (zext16 v).getLsbD i = v.getLsbD i := by
  simp [zext16, h]

@[simp] theorem low8_joinBytes (hi lo : Byte) : low8 (joinBytes hi lo) = lo := by
  apply BitVec.eq_of_getLsbD_eq
  intro i h
  rw [low8_getLsbD _ h, joinBytes_getLsbD, if_pos h]

@[simp] theorem high8_joinBytes (hi lo : Byte) : high8 (joinBytes hi lo) = hi := by
  apply BitVec.eq_of_getLsbD_eq
  intro i h
  rw [high8_getLsbD _ h, joinBytes_getLsbD, if_neg (by omega), Nat.add_sub_cancel_left]

@[simp] theorem joinBytes_high8_low8 (v : Word) : joinBytes (high8 v) (low8 v) = v := by
  apply BitVec.eq_of_getLsbD_eq
  intro i h
  rw [joinBytes_getLsbD]
  split
  next h8 => exact low8_getLsbD v h8
  next h8 => rw [high8_getLsbD v (by omega), Nat.add_sub_cancel' (by omega)]

/-- The second checksum byte completes the word the first began, whatever the register held (R159 to R161). -/
theorem withHigh8_withLow8 (v : Word) (lo hi : Byte) : withHigh8 (withLow8 v lo) hi = joinBytes hi lo := by
  simp [withHigh8, withLow8]

@[simp] theorem crcFold_nil (r : Word) : crcFold r [] = r := rfl

theorem crcFold_cons (r : Word) (b : Byte) (s : List Byte) : crcFold r (b :: s) = crcFold (crcUpdate b r) s := rfl

theorem serializedFrame_length (c : Config) (t : Byte) (p : List Byte) :
    (serializedFrame c t p).length = Config.headerSize + p.length := by
  simp [serializedFrame, frameBytes, Config.headerSize]
  omega

end Sys2Proof.Machine
end

