-- ==== Sys2Proof/Laws/Frames.lean ====
section
/-! SUPPORT. Frames with one byte changed (spec R178): a flipped bit is a changed byte. -/

namespace Sys2Proof.Machine

theorem sensitiveOffset_iff {n j : Nat} : sensitiveOffset n j = true ↔ j ≠ 0 ∧ j ≠ 2 ∧ j < 5 + n := by
  show (j != 0 && j != 2 && decide (j < 5 + n)) = true ↔ _
  simp [and_assoc]

/-- Flipping a bit changes the byte. -/
theorem xor_twoPow_ne (b : Byte) {k : Nat} (h : k < 8) : b ^^^ BitVec.twoPow 8 k ≠ b := by
  intro e
  have := congrArg (BitVec.getLsbD · k) e
  simp [h] at this

/-- A flipped bit, as the byte that stands there instead. -/
theorem flippedFrame_eq_corruptedFrame {c : Config} {t : Byte} {p : List Byte} {j : Nat} (k : Nat)
    (h : j < (serializedFrame c t p).length) :
    flippedFrame c t p j k = corruptedFrame c t p j ((serializedFrame c t p)[j] ^^^ BitVec.twoPow 8 k) := by
  simp [flippedFrame, corruptedFrame, List.modify_eq_set_getElem?, List.getElem?_eq_getElem h]

/-- The byte a flipped bit puts there is another than the frame's. -/
theorem flipped_byte_ne {c : Config} {t : Byte} {p : List Byte} {j k : Nat} (hk : k < 8)
    (h : j < (serializedFrame c t p).length) :
    (serializedFrame c t p)[j]? ≠ some ((serializedFrame c t p)[j] ^^^ BitVec.twoPow 8 k) := by
  rw [List.getElem?_eq_getElem h]
  exact fun e => xor_twoPow_ne _ hk (Option.some.inj e).symm

end Sys2Proof.Machine
end

