-- ==== Sys2Proof/Laws/Memory.lean ====
section
/-! SUPPORT. The basic laws of the payload buffer: a read after a write, and the canonical form. -/

namespace Sys2Proof.Machine

@[simp] theorem Memory.read_write_same (m : Memory) (i : Nat) (v : Byte) : (m.write i v).read i = some v := by
  induction m with
  | nil => simp [Memory.write, Memory.read]
  | cons c m ih =>
    obtain ⟨a, u⟩ := c
    by_cases h1 : i < a
    · simp [Memory.write, Memory.read, h1]
    · by_cases h2 : i = a
      · simp [Memory.write, Memory.read, h2]
      · have h3 : a ≠ i := fun h => h2 h.symm
        simp [Memory.write, Memory.read, h1, h2, h3, ih]

theorem Memory.read_write_other (m : Memory) {i j : Nat} (v : Byte) (h : j ≠ i) :
    (m.write i v).read j = m.read j := by
  have h' : i ≠ j := fun e => h e.symm
  induction m with
  | nil => simp [Memory.write, Memory.read, h']
  | cons c m ih =>
    obtain ⟨a, u⟩ := c
    by_cases h1 : i < a
    · simp [Memory.write, Memory.read, h1, h']
    · by_cases h2 : i = a
      · subst h2
        simp [Memory.write, Memory.read, h']
      · simp [Memory.write, Memory.read, h1, h2, ih]

theorem Memory.read_write (m : Memory) (i j : Nat) (v : Byte) :
    (m.write i v).read j = if j = i then some v else m.read j := by
  by_cases h : j = i
  · subst h; simp
  · rw [Memory.read_write_other m v h, if_neg h]

/-- Every cell after a write is the written one or was there before. -/
theorem Memory.mem_write (m : Memory) (i : Nat) (v : Byte) {c : Host.Cell} (h : c ∈ m.write i v) :
    c = (i, v) ∨ c ∈ m := by
  induction m with
  | nil => exact .inl (by simpa [Memory.write] using h)
  | cons d m ih =>
    obtain ⟨a, u⟩ := d
    simp only [Memory.write] at h
    split at h
    · rcases List.mem_cons.mp h with h | h
      · exact .inl h
      · exact .inr h
    · split at h
      · rcases List.mem_cons.mp h with h | h
        · exact .inl h
        · exact .inr (List.mem_cons_of_mem _ h)
      · rcases List.mem_cons.mp h with h | h
        · exact .inr (h ▸ List.mem_cons_self)
        · exact (ih h).imp_right (List.mem_cons_of_mem _)

/-- A write keeps the canonical form. -/
theorem Memory.wf_write {m : Memory} (i : Nat) (v : Byte) (h : m.wf) : (m.write i v).wf := by
  induction m with
  | nil => simp [Memory.write, Memory.wf]
  | cons d m ih =>
    obtain ⟨a, u⟩ := d
    obtain ⟨hhead, htail⟩ := List.pairwise_cons.mp h
    simp only [Memory.write]
    split
    next h1 =>
      refine List.pairwise_cons.mpr ⟨fun c hc => ?_, h⟩
      rcases List.mem_cons.mp hc with rfl | hc
      · exact h1
      · exact lt_trans h1 (hhead c hc)
    next h1 =>
      split
      next h2 => exact List.pairwise_cons.mpr ⟨fun c hc => h2 ▸ hhead c hc, htail⟩
      next h2 =>
        refine List.pairwise_cons.mpr ⟨fun c hc => ?_, ih htail⟩
        rcases Memory.mem_write m i v hc with rfl | hc
        · show a < i
          omega
        · exact hhead c hc

/-- The buffer before the first write is in canonical form. -/
theorem Memory.wf_nil : Memory.wf [] := List.Pairwise.nil

/-- Below every listed address nothing has been written. -/
theorem Memory.read_below {m : Memory} {i : Nat} (h : ∀ c ∈ m, i < c.1) : m.read i = none := by
  induction m with
  | nil => rfl
  | cons d m ih =>
    have hd : d.1 ≠ i := Nat.ne_of_gt (h d List.mem_cons_self)
    simp [Memory.read, hd, ih fun c hc => h c (List.mem_cons_of_mem _ hc)]

/-- Canonical memories that read alike are equal data. -/
theorem Memory.ext_of_wf {m n : Memory} (hm : m.wf) (hn : n.wf) (h : ∀ i, m.read i = n.read i) : m = n := by
  induction m generalizing n with
  | nil =>
    cases n with
    | nil => rfl
    | cons d n => simpa [Memory.read] using h d.1
  | cons c m ih =>
    obtain ⟨a, u⟩ := c
    obtain ⟨hm1, hm2⟩ := List.pairwise_cons.mp hm
    cases n with
    | nil => simpa [Memory.read] using h a
    | cons d n =>
      obtain ⟨b, v⟩ := d
      obtain ⟨hn1, hn2⟩ := List.pairwise_cons.mp hn
      have hab : a = b := by
        rcases Nat.lt_trichotomy a b with hl | he | hl
        · have := h a
          rw [Memory.read_below (m := (b, v) :: n) fun c hc => (List.mem_cons.mp hc).elim (· ▸ hl)
            fun hc => Nat.lt_trans hl (hn1 c hc)] at this
          simp [Memory.read] at this
        · exact he
        · have := h b
          rw [Memory.read_below (m := (a, u) :: m) fun c hc => (List.mem_cons.mp hc).elim (· ▸ hl)
            fun hc => Nat.lt_trans hl (hm1 c hc)] at this
          simp [Memory.read] at this
      subst hab
      have huv : u = v := by simpa [Memory.read] using h a
      subst huv
      rw [ih hm2 hn2 fun i => ?_]
      by_cases hi : a = i
      · subst hi
        rw [Memory.read_below fun c hc => hm1 c hc, Memory.read_below fun c hc => hn1 c hc]
      · simpa [Memory.read, hi] using h i

end Sys2Proof.Machine
end

