-- ==== Sys2Proof/Laws/State.lean ====
section
/-! SUPPORT. One lemma per field per named update of the state, so that no proof unfolds a record update. -/

namespace Sys2Proof.Machine

@[simp] theorem emit_cfg (e : Event) (s : State) : (emit e s).cfg = s.cfg := rfl
@[simp] theorem emit_rx (e : Event) (s : State) : (emit e s).rx = s.rx := rfl
@[simp] theorem emit_pending (e : Event) (s : State) : (emit e s).pending = s.pending := rfl
@[simp] theorem emit_trace (e : Event) (s : State) : (emit e s).trace = s.trace ++ [e] := rfl

@[simp] theorem setRxState_cfg (x : RxState) (s : State) : (setRxState x s).cfg = s.cfg := rfl
@[simp] theorem setRxState_pending (x : RxState) (s : State) : (setRxState x s).pending = s.pending := rfl
@[simp] theorem setRxState_trace (x : RxState) (s : State) : (setRxState x s).trace = s.trace := rfl
@[simp] theorem setRxState_rx_state (x : RxState) (s : State) : (setRxState x s).rx.state = x := rfl
@[simp] theorem setRxState_rx_count (x : RxState) (s : State) : (setRxState x s).rx.count = s.rx.count := rfl
@[simp] theorem setRxState_rx_pktStart (x : RxState) (s : State) : (setRxState x s).rx.pktStart = s.rx.pktStart := rfl
@[simp] theorem setRxState_rx_pktType (x : RxState) (s : State) : (setRxState x s).rx.pktType = s.rx.pktType := rfl
@[simp] theorem setRxState_rx_pktLen (x : RxState) (s : State) : (setRxState x s).rx.pktLen = s.rx.pktLen := rfl
@[simp] theorem setRxState_rx_pktCrc (x : RxState) (s : State) : (setRxState x s).rx.pktCrc = s.rx.pktCrc := rfl
@[simp] theorem setRxState_rx_payload (x : RxState) (s : State) : (setRxState x s).rx.payload = s.rx.payload := rfl
@[simp] theorem setRxState_rx_handler (x : RxState) (s : State) : (setRxState x s).rx.handler = s.rx.handler := rfl
@[simp] theorem setRxState_rx_ctx (x : RxState) (s : State) : (setRxState x s).rx.ctx = s.rx.ctx := rfl
@[simp] theorem setRxState_rx_inited (x : RxState) (s : State) : (setRxState x s).rx.inited = s.rx.inited := rfl

@[simp] theorem resetToEmpty_cfg (s : State) : (resetToEmpty s).cfg = s.cfg := rfl
@[simp] theorem resetToEmpty_pending (s : State) : (resetToEmpty s).pending = s.pending := rfl
@[simp] theorem resetToEmpty_trace (s : State) : (resetToEmpty s).trace = s.trace := rfl
@[simp] theorem resetToEmpty_rx_state (s : State) : (resetToEmpty s).rx.state = .empty := rfl
@[simp] theorem resetToEmpty_rx_count (s : State) : (resetToEmpty s).rx.count = 0#8 := rfl
@[simp] theorem resetToEmpty_rx_pktStart (s : State) : (resetToEmpty s).rx.pktStart = s.rx.pktStart := rfl
@[simp] theorem resetToEmpty_rx_pktType (s : State) : (resetToEmpty s).rx.pktType = s.rx.pktType := rfl
@[simp] theorem resetToEmpty_rx_pktLen (s : State) : (resetToEmpty s).rx.pktLen = s.rx.pktLen := rfl
@[simp] theorem resetToEmpty_rx_pktCrc (s : State) : (resetToEmpty s).rx.pktCrc = s.rx.pktCrc := rfl
@[simp] theorem resetToEmpty_rx_payload (s : State) : (resetToEmpty s).rx.payload = s.rx.payload := rfl
@[simp] theorem resetToEmpty_rx_handler (s : State) : (resetToEmpty s).rx.handler = s.rx.handler := rfl
@[simp] theorem resetToEmpty_rx_ctx (s : State) : (resetToEmpty s).rx.ctx = s.rx.ctx := rfl
@[simp] theorem resetToEmpty_rx_inited (s : State) : (resetToEmpty s).rx.inited = s.rx.inited := rfl

@[simp] theorem dropAttempt_cfg (e : ErrorCode) (s : State) : (dropAttempt e s).cfg = s.cfg := rfl
@[simp] theorem dropAttempt_pending (e : ErrorCode) (s : State) : (dropAttempt e s).pending = s.pending := rfl
@[simp] theorem dropAttempt_trace (e : ErrorCode) (s : State) : (dropAttempt e s).trace = s.trace ++ [.drop e] := rfl
@[simp] theorem dropAttempt_rx_state (e : ErrorCode) (s : State) : (dropAttempt e s).rx.state = .empty := rfl
@[simp] theorem dropAttempt_rx_count (e : ErrorCode) (s : State) : (dropAttempt e s).rx.count = 0#8 := rfl
@[simp] theorem dropAttempt_rx_pktStart (e : ErrorCode) (s : State) : (dropAttempt e s).rx.pktStart = s.rx.pktStart := rfl
@[simp] theorem dropAttempt_rx_pktType (e : ErrorCode) (s : State) : (dropAttempt e s).rx.pktType = s.rx.pktType := rfl
@[simp] theorem dropAttempt_rx_pktLen (e : ErrorCode) (s : State) : (dropAttempt e s).rx.pktLen = s.rx.pktLen := rfl
@[simp] theorem dropAttempt_rx_pktCrc (e : ErrorCode) (s : State) : (dropAttempt e s).rx.pktCrc = s.rx.pktCrc := rfl
@[simp] theorem dropAttempt_rx_payload (e : ErrorCode) (s : State) : (dropAttempt e s).rx.payload = s.rx.payload := rfl
@[simp] theorem dropAttempt_rx_handler (e : ErrorCode) (s : State) : (dropAttempt e s).rx.handler = s.rx.handler := rfl
@[simp] theorem dropAttempt_rx_ctx (e : ErrorCode) (s : State) : (dropAttempt e s).rx.ctx = s.rx.ctx := rfl
@[simp] theorem dropAttempt_rx_inited (e : ErrorCode) (s : State) : (dropAttempt e s).rx.inited = s.rx.inited := rfl

@[simp] theorem tEmptyStart_cfg (b : Byte) (s : State) : (tEmptyStart b s).cfg = s.cfg := rfl
@[simp] theorem tEmptyStart_pending (b : Byte) (s : State) : (tEmptyStart b s).pending = s.pending := rfl
@[simp] theorem tEmptyStart_trace (b : Byte) (s : State) : (tEmptyStart b s).trace = s.trace := rfl
@[simp] theorem tEmptyStart_rx_state (b : Byte) (s : State) : (tEmptyStart b s).rx.state = .gotStart := rfl
@[simp] theorem tEmptyStart_rx_count (b : Byte) (s : State) : (tEmptyStart b s).rx.count = s.rx.count := rfl
@[simp] theorem tEmptyStart_rx_pktStart (b : Byte) (s : State) : (tEmptyStart b s).rx.pktStart = b := rfl
@[simp] theorem tEmptyStart_rx_pktType (b : Byte) (s : State) : (tEmptyStart b s).rx.pktType = s.rx.pktType := rfl
@[simp] theorem tEmptyStart_rx_pktLen (b : Byte) (s : State) : (tEmptyStart b s).rx.pktLen = s.rx.pktLen := rfl
@[simp] theorem tEmptyStart_rx_pktCrc (b : Byte) (s : State) : (tEmptyStart b s).rx.pktCrc = s.rx.pktCrc := rfl
@[simp] theorem tEmptyStart_rx_payload (b : Byte) (s : State) : (tEmptyStart b s).rx.payload = s.rx.payload := rfl
@[simp] theorem tEmptyStart_rx_handler (b : Byte) (s : State) : (tEmptyStart b s).rx.handler = s.rx.handler := rfl
@[simp] theorem tEmptyStart_rx_ctx (b : Byte) (s : State) : (tEmptyStart b s).rx.ctx = s.rx.ctx := rfl
@[simp] theorem tEmptyStart_rx_inited (b : Byte) (s : State) : (tEmptyStart b s).rx.inited = s.rx.inited := rfl

@[simp] theorem tGotStart_cfg (b : Byte) (s : State) : (tGotStart b s).cfg = s.cfg := rfl
@[simp] theorem tGotStart_pending (b : Byte) (s : State) : (tGotStart b s).pending = s.pending := rfl
@[simp] theorem tGotStart_trace (b : Byte) (s : State) : (tGotStart b s).trace = s.trace := rfl
@[simp] theorem tGotStart_rx_state (b : Byte) (s : State) : (tGotStart b s).rx.state = .gotType := rfl
@[simp] theorem tGotStart_rx_count (b : Byte) (s : State) : (tGotStart b s).rx.count = s.rx.count := rfl
@[simp] theorem tGotStart_rx_pktStart (b : Byte) (s : State) : (tGotStart b s).rx.pktStart = s.rx.pktStart := rfl
@[simp] theorem tGotStart_rx_pktType (b : Byte) (s : State) : (tGotStart b s).rx.pktType = b := rfl
@[simp] theorem tGotStart_rx_pktLen (b : Byte) (s : State) : (tGotStart b s).rx.pktLen = s.rx.pktLen := rfl
@[simp] theorem tGotStart_rx_pktCrc (b : Byte) (s : State) : (tGotStart b s).rx.pktCrc = s.rx.pktCrc := rfl
@[simp] theorem tGotStart_rx_payload (b : Byte) (s : State) : (tGotStart b s).rx.payload = s.rx.payload := rfl
@[simp] theorem tGotStart_rx_handler (b : Byte) (s : State) : (tGotStart b s).rx.handler = s.rx.handler := rfl
@[simp] theorem tGotStart_rx_ctx (b : Byte) (s : State) : (tGotStart b s).rx.ctx = s.rx.ctx := rfl
@[simp] theorem tGotStart_rx_inited (b : Byte) (s : State) : (tGotStart b s).rx.inited = s.rx.inited := rfl

@[simp] theorem tGotTypeAccept_cfg (b : Byte) (s : State) : (tGotTypeAccept b s).cfg = s.cfg := rfl
@[simp] theorem tGotTypeAccept_pending (b : Byte) (s : State) : (tGotTypeAccept b s).pending = s.pending := rfl
@[simp] theorem tGotTypeAccept_trace (b : Byte) (s : State) : (tGotTypeAccept b s).trace = s.trace := rfl
@[simp] theorem tGotTypeAccept_rx_state (b : Byte) (s : State) : (tGotTypeAccept b s).rx.state = .gotLength := rfl
@[simp] theorem tGotTypeAccept_rx_count (b : Byte) (s : State) : (tGotTypeAccept b s).rx.count = s.rx.count := rfl
@[simp] theorem tGotTypeAccept_rx_pktStart (b : Byte) (s : State) : (tGotTypeAccept b s).rx.pktStart = s.rx.pktStart := rfl
@[simp] theorem tGotTypeAccept_rx_pktType (b : Byte) (s : State) : (tGotTypeAccept b s).rx.pktType = s.rx.pktType := rfl
@[simp] theorem tGotTypeAccept_rx_pktLen (b : Byte) (s : State) : (tGotTypeAccept b s).rx.pktLen = b := rfl
@[simp] theorem tGotTypeAccept_rx_pktCrc (b : Byte) (s : State) : (tGotTypeAccept b s).rx.pktCrc = s.rx.pktCrc := rfl
@[simp] theorem tGotTypeAccept_rx_payload (b : Byte) (s : State) : (tGotTypeAccept b s).rx.payload = s.rx.payload := rfl
@[simp] theorem tGotTypeAccept_rx_handler (b : Byte) (s : State) : (tGotTypeAccept b s).rx.handler = s.rx.handler := rfl
@[simp] theorem tGotTypeAccept_rx_ctx (b : Byte) (s : State) : (tGotTypeAccept b s).rx.ctx = s.rx.ctx := rfl
@[simp] theorem tGotTypeAccept_rx_inited (b : Byte) (s : State) : (tGotTypeAccept b s).rx.inited = s.rx.inited := rfl

@[simp] theorem tGotTypeReject_cfg (b : Byte) (s : State) : (tGotTypeReject b s).cfg = s.cfg := rfl
@[simp] theorem tGotTypeReject_pending (b : Byte) (s : State) : (tGotTypeReject b s).pending = s.pending := rfl
@[simp] theorem tGotTypeReject_trace (b : Byte) (s : State) : (tGotTypeReject b s).trace = s.trace ++ [.drop .invalidLengthField] := rfl
@[simp] theorem tGotTypeReject_rx_state (b : Byte) (s : State) : (tGotTypeReject b s).rx.state = .empty := rfl
@[simp] theorem tGotTypeReject_rx_count (b : Byte) (s : State) : (tGotTypeReject b s).rx.count = 0#8 := rfl
@[simp] theorem tGotTypeReject_rx_pktStart (b : Byte) (s : State) : (tGotTypeReject b s).rx.pktStart = s.rx.pktStart := rfl
@[simp] theorem tGotTypeReject_rx_pktType (b : Byte) (s : State) : (tGotTypeReject b s).rx.pktType = s.rx.pktType := rfl
@[simp] theorem tGotTypeReject_rx_pktLen (b : Byte) (s : State) : (tGotTypeReject b s).rx.pktLen = s.rx.pktLen := rfl
@[simp] theorem tGotTypeReject_rx_pktCrc (b : Byte) (s : State) : (tGotTypeReject b s).rx.pktCrc = s.rx.pktCrc := rfl
@[simp] theorem tGotTypeReject_rx_payload (b : Byte) (s : State) : (tGotTypeReject b s).rx.payload = s.rx.payload := rfl
@[simp] theorem tGotTypeReject_rx_handler (b : Byte) (s : State) : (tGotTypeReject b s).rx.handler = s.rx.handler := rfl
@[simp] theorem tGotTypeReject_rx_ctx (b : Byte) (s : State) : (tGotTypeReject b s).rx.ctx = s.rx.ctx := rfl
@[simp] theorem tGotTypeReject_rx_inited (b : Byte) (s : State) : (tGotTypeReject b s).rx.inited = s.rx.inited := rfl

@[simp] theorem tGotLength_cfg (b : Byte) (s : State) : (tGotLength b s).cfg = s.cfg := rfl
@[simp] theorem tGotLength_pending (b : Byte) (s : State) : (tGotLength b s).pending = s.pending := rfl
@[simp] theorem tGotLength_trace (b : Byte) (s : State) : (tGotLength b s).trace = s.trace := rfl
@[simp] theorem tGotLength_rx_state (b : Byte) (s : State) : (tGotLength b s).rx.state = .gotChecksumHigh := rfl
@[simp] theorem tGotLength_rx_count (b : Byte) (s : State) : (tGotLength b s).rx.count = s.rx.count := rfl
@[simp] theorem tGotLength_rx_pktStart (b : Byte) (s : State) : (tGotLength b s).rx.pktStart = s.rx.pktStart := rfl
@[simp] theorem tGotLength_rx_pktType (b : Byte) (s : State) : (tGotLength b s).rx.pktType = s.rx.pktType := rfl
@[simp] theorem tGotLength_rx_pktLen (b : Byte) (s : State) : (tGotLength b s).rx.pktLen = s.rx.pktLen := rfl
@[simp] theorem tGotLength_rx_pktCrc (b : Byte) (s : State) : (tGotLength b s).rx.pktCrc = withLow8 s.rx.pktCrc b := rfl
@[simp] theorem tGotLength_rx_payload (b : Byte) (s : State) : (tGotLength b s).rx.payload = s.rx.payload := rfl
@[simp] theorem tGotLength_rx_handler (b : Byte) (s : State) : (tGotLength b s).rx.handler = s.rx.handler := rfl
@[simp] theorem tGotLength_rx_ctx (b : Byte) (s : State) : (tGotLength b s).rx.ctx = s.rx.ctx := rfl
@[simp] theorem tGotLength_rx_inited (b : Byte) (s : State) : (tGotLength b s).rx.inited = s.rx.inited := rfl

@[simp] theorem tGchZero_cfg (b : Byte) (s : State) : (tGchZero b s).cfg = s.cfg := rfl
@[simp] theorem tGchZero_pending (b : Byte) (s : State) : (tGchZero b s).pending = s.pending := rfl
@[simp] theorem tGchZero_trace (b : Byte) (s : State) : (tGchZero b s).trace = s.trace := rfl
@[simp] theorem tGchZero_rx_state (b : Byte) (s : State) : (tGchZero b s).rx.state = .complete := rfl
@[simp] theorem tGchZero_rx_count (b : Byte) (s : State) : (tGchZero b s).rx.count = s.rx.count := rfl
@[simp] theorem tGchZero_rx_pktStart (b : Byte) (s : State) : (tGchZero b s).rx.pktStart = s.rx.pktStart := rfl
@[simp] theorem tGchZero_rx_pktType (b : Byte) (s : State) : (tGchZero b s).rx.pktType = s.rx.pktType := rfl
@[simp] theorem tGchZero_rx_pktLen (b : Byte) (s : State) : (tGchZero b s).rx.pktLen = s.rx.pktLen := rfl
@[simp] theorem tGchZero_rx_pktCrc (b : Byte) (s : State) : (tGchZero b s).rx.pktCrc = withHigh8 s.rx.pktCrc b := rfl
@[simp] theorem tGchZero_rx_payload (b : Byte) (s : State) : (tGchZero b s).rx.payload = s.rx.payload := rfl
@[simp] theorem tGchZero_rx_handler (b : Byte) (s : State) : (tGchZero b s).rx.handler = s.rx.handler := rfl
@[simp] theorem tGchZero_rx_ctx (b : Byte) (s : State) : (tGchZero b s).rx.ctx = s.rx.ctx := rfl
@[simp] theorem tGchZero_rx_inited (b : Byte) (s : State) : (tGchZero b s).rx.inited = s.rx.inited := rfl

@[simp] theorem tGchNonzero_cfg (b : Byte) (s : State) : (tGchNonzero b s).cfg = s.cfg := rfl
@[simp] theorem tGchNonzero_pending (b : Byte) (s : State) : (tGchNonzero b s).pending = s.pending := rfl
@[simp] theorem tGchNonzero_trace (b : Byte) (s : State) : (tGchNonzero b s).trace = s.trace := rfl
@[simp] theorem tGchNonzero_rx_state (b : Byte) (s : State) : (tGchNonzero b s).rx.state = .receivingPayload := rfl
@[simp] theorem tGchNonzero_rx_count (b : Byte) (s : State) : (tGchNonzero b s).rx.count = s.rx.count := rfl
@[simp] theorem tGchNonzero_rx_pktStart (b : Byte) (s : State) : (tGchNonzero b s).rx.pktStart = s.rx.pktStart := rfl
@[simp] theorem tGchNonzero_rx_pktType (b : Byte) (s : State) : (tGchNonzero b s).rx.pktType = s.rx.pktType := rfl
@[simp] theorem tGchNonzero_rx_pktLen (b : Byte) (s : State) : (tGchNonzero b s).rx.pktLen = s.rx.pktLen := rfl
@[simp] theorem tGchNonzero_rx_pktCrc (b : Byte) (s : State) : (tGchNonzero b s).rx.pktCrc = withHigh8 s.rx.pktCrc b := rfl
@[simp] theorem tGchNonzero_rx_payload (b : Byte) (s : State) : (tGchNonzero b s).rx.payload = s.rx.payload := rfl
@[simp] theorem tGchNonzero_rx_handler (b : Byte) (s : State) : (tGchNonzero b s).rx.handler = s.rx.handler := rfl
@[simp] theorem tGchNonzero_rx_ctx (b : Byte) (s : State) : (tGchNonzero b s).rx.ctx = s.rx.ctx := rfl
@[simp] theorem tGchNonzero_rx_inited (b : Byte) (s : State) : (tGchNonzero b s).rx.inited = s.rx.inited := rfl

@[simp] theorem tEmptyOther_eq (b : Byte) (s : State) : tEmptyOther b s = s := rfl

end Sys2Proof.Machine
end

