-- ==== Sys2Proof/Laws/Ops.lean ====
section
/-! SUPPORT. One lemma per shared operation that says everything it can do, and the small equations of the phases. -/

namespace Sys2Proof.Machine

@[simp] theorem andThen_next (s : State) (f : State → Result) : andThen (.next s) f = f s := rfl
@[simp] theorem andThen_fault (r : Fault) (f : State → Result) : andThen (.fault r) f = .fault r := rfl
@[simp] theorem andThen_refused (r : Refusal) (f : State → Result) : andThen (.refused r) f = .refused r := rfl

/-- A sequence of two phases answers next exactly when both do. -/
theorem andThen_eq_next {o : Result} {f : State → Result} {t : State} :
    andThen o f = .next t ↔ ∃ s, o = .next s ∧ f s = .next t := by
  cases o <;> simp

theorem andThen_eq_fault {o : Result} {f : State → Result} {r : Fault} :
    andThen o f = .fault r ↔ o = .fault r ∨ ∃ s, o = .next s ∧ f s = .fault r := by
  cases o <;> simp

/-- What storing a payload byte can do: the index was in the buffer, the byte is at it, and `count` went up. -/
theorem storePayload_eq_next {b : Byte} {s t : State} :
    storePayload b s = .next t ↔ s.rx.count.toNat < s.cfg.maxLen ∧
      t = { s with rx := { s.rx with
        payload := s.rx.payload.write s.rx.count.toNat b, count := s.rx.count + 1#8 } } := by
  unfold storePayload
  split <;> simp_all [eq_comm]

/-- What the hook can do: the packet fits the buffer, and it was validated. -/
theorem runHook_eq_next {s t : State} :
    runHook s = .next t ↔ s.rx.pktLen.toNat ≤ s.cfg.maxLen ∧ t = validate s := by
  unfold runHook
  split <;> simp_all [eq_comm]

theorem hookIfComplete_of_ne {s : State} (h : s.rx.state ≠ .complete) : hookIfComplete s = .next s := by
  simp [hookIfComplete, h]

theorem hookIfComplete_of_eq {s : State} (h : s.rx.state = .complete) : hookIfComplete s = runHook s := by
  simp [hookIfComplete, h]

/-- What a row can do: the receiver is initialised, the row is selected, and its body ran. -/
theorem runRow_eq_next {sel : Bool} {body : State → Result} {s t : State} :
    runRow sel body s = .next t ↔ s.rx.inited = true ∧ sel = true ∧ body s = .next t := by
  unfold runRow
  split <;> (try split) <;> simp_all

theorem runRow_selected {sel : Bool} {body : State → Result} {s : State} (hi : s.rx.inited = true)
    (hs : sel = true) : runRow sel body s = body s := by
  simp [runRow, hi, hs]

/-- Validation writes `state` and `count` of the receiver and nothing else of it. -/
@[simp] theorem validate_rx (s : State) : (validate s).rx = { s.rx with state := .empty, count := 0#8 } := by
  unfold validate
  split <;> rfl

@[simp] theorem validate_cfg (s : State) : (validate s).cfg = s.cfg := by
  unfold validate
  split <;> rfl

@[simp] theorem validate_pending (s : State) : (validate s).pending = s.pending := by
  unfold validate
  split <;> rfl

/-- Validation appends one event. -/
theorem validate_trace (s : State) : (validate s).trace = s.trace ++
    [if computedChecksum s = s.rx.pktCrc then .dispatch s.rx.handler (packetHeld s)
     else .drop .checksumMismatch] := by
  unfold validate
  split <;> rfl

@[simp] theorem payloadBytes_length (s : State) (n : Nat) : (payloadBytes s n).length = n := by
  simp [payloadBytes]

@[simp] theorem payloadBytes_zero (s : State) : payloadBytes s 0 = [] := rfl

/-- The bytes below `n` depend on what the buffer holds below `n` only. -/
theorem payloadBytes_congr {s t : State} {n : Nat}
    (h : ∀ i < n, t.rx.payload.read i = s.rx.payload.read i) : payloadBytes t n = payloadBytes s n := by
  apply List.map_congr_left
  intro i hi
  simp [payloadByte, h i (List.mem_range.mp hi)]

@[simp] theorem rxFeed_nil (s : State) : rxFeed [] s = .next s := rfl
theorem rxFeed_cons (b : Byte) (bs : List Byte) (s : State) :
    rxFeed (b :: bs) s = andThen (execRxFeedByte b s) (rxFeed bs) := rfl

/-! The byte step, state by state (R153). -/

theorem execRxFeedByte_of_resting {b : Byte} {s : State} (hi : s.rx.inited = true)
    (h6 : s.rx.state ≠ .complete) (h7 : s.rx.state ≠ .illegal7) :
    execRxFeedByte b s = andThen (transition b s) hookIfComplete := by
  simp [execRxFeedByte, hi, h7, hookIfComplete_of_ne h6]

end Sys2Proof.Machine
end

