-- ==== Sys2Proof/Laws/PerInstr.lean ====
section
/-! SUPPORT. What holds of every instruction as syntax, one lemma per constructor. -/

namespace Sys2Proof.Laws.MatchesTable

/-- The format and, where the row has a match under the mask 7, the three match bits that spec/opcode_table.json gives
the instruction's row. -/
def tableRow : Instr → Format × Option Nat
  | .crcUpdate _ _ => (.opSelect, some 0)
  | .serialize _ _ => (.opSelect, some 1)
  | .rxInit _ _ => (.opSelect, some 2)
  | .rxReset => (.opSelect, some 3)
  | .rxFeedByte _ => (.opSelect, some 4)
  | .reservedOp5 => (.opSelect, some 5)
  | .reservedOp6 => (.opSelect, some 6)
  | .reservedOp7 => (.opSelect, some 7)
  | .feedEmptyStart _ => (.rxTransition, some 0)
  | .feedEmptyOther _ => (.rxTransition, some 0)
  | .feedGotStart _ => (.rxTransition, some 1)
  | .feedGotTypeAccept _ => (.rxTransition, some 2)
  | .feedGotTypeReject _ => (.rxTransition, some 2)
  | .feedGotLength _ => (.rxTransition, some 3)
  | .feedGotChecksumHighZero _ => (.rxTransition, some 4)
  | .feedGotChecksumHighNonzero _ => (.rxTransition, some 4)
  | .feedReceivingPayloadLast _ => (.rxTransition, some 5)
  | .feedReceivingPayloadMore _ => (.rxTransition, some 5)
  | .feedComplete _ => (.rxTransition, some 6)
  | .feedIllegal7 _ => (.rxTransition, some 7)
  | .completeHook => (.internal, some 6)
  | .frameHeader _ _ _ _ _ => (.wireFrame, none)

/-- The encoder puts an instruction in its row's format, with its row's match in bits 2..0 of the first byte. -/
def Statement (i : Instr) : Prop :=
  (encode i).format = (tableRow i).1 ∧ ∀ m, (tableRow i).2 = some m → (encode i).bytes.head?.map selectCode = some m

theorem crcUpdate (byte : Byte) (running : Word) : Statement (.crcUpdate byte running) := ⟨rfl, fun _ h => h⟩
theorem serialize (ptype : Byte) (payload : List Byte) : Statement (.serialize ptype payload) := ⟨rfl, fun _ h => h⟩
theorem rxInit (handler ctx : Nat) : Statement (.rxInit handler ctx) := ⟨rfl, fun _ h => h⟩
theorem rxReset : Statement .rxReset := ⟨rfl, fun _ h => h⟩
theorem rxFeedByte (b : Byte) : Statement (.rxFeedByte b) := ⟨rfl, fun _ h => h⟩
theorem reservedOp5 : Statement .reservedOp5 := ⟨rfl, fun _ h => h⟩
theorem reservedOp6 : Statement .reservedOp6 := ⟨rfl, fun _ h => h⟩
theorem reservedOp7 : Statement .reservedOp7 := ⟨rfl, fun _ h => h⟩
theorem feedEmptyStart (b : Byte) : Statement (.feedEmptyStart b) := ⟨rfl, fun _ h => h⟩
theorem feedEmptyOther (b : Byte) : Statement (.feedEmptyOther b) := ⟨rfl, fun _ h => h⟩
theorem feedGotStart (b : Byte) : Statement (.feedGotStart b) := ⟨rfl, fun _ h => h⟩
theorem feedGotTypeAccept (b : Byte) : Statement (.feedGotTypeAccept b) := ⟨rfl, fun _ h => h⟩
theorem feedGotTypeReject (b : Byte) : Statement (.feedGotTypeReject b) := ⟨rfl, fun _ h => h⟩
theorem feedGotLength (b : Byte) : Statement (.feedGotLength b) := ⟨rfl, fun _ h => h⟩
theorem feedGotChecksumHighZero (b : Byte) : Statement (.feedGotChecksumHighZero b) := ⟨rfl, fun _ h => h⟩
theorem feedGotChecksumHighNonzero (b : Byte) : Statement (.feedGotChecksumHighNonzero b) := ⟨rfl, fun _ h => h⟩
theorem feedReceivingPayloadLast (b : Byte) : Statement (.feedReceivingPayloadLast b) := ⟨rfl, fun _ h => h⟩
theorem feedReceivingPayloadMore (b : Byte) : Statement (.feedReceivingPayloadMore b) := ⟨rfl, fun _ h => h⟩
theorem feedComplete (b : Byte) : Statement (.feedComplete b) := ⟨rfl, fun _ h => h⟩
theorem feedIllegal7 (b : Byte) : Statement (.feedIllegal7 b) := ⟨rfl, fun _ h => h⟩
theorem completeHook : Statement .completeHook := ⟨rfl, fun _ h => h⟩
theorem frameHeader (start ptype len crcLow crcHigh : Byte) :
    Statement (.frameHeader start ptype len crcLow crcHigh) := ⟨rfl, fun _ h => by cases h⟩

end Sys2Proof.Laws.MatchesTable
end

