-- ==== Sys2Proof/Tests/Slice0.lean ====
section
/-! SUPPORT. The model's own tests. Expected results are the spec's: the vectors V-C, V-S, V-F, V-E of
spec/95_test_vectors.md and the encodings of R80, R90, R93. Then, for each statement of
Certificates/Slice0/Obligations.lean that has hypotheses, a concrete state and operands that meet them. -/

namespace Sys2Proof.Tests

open Sys2Proof.Machine

/-! ## Small states -/

/-- The example constants of 95_test_vectors.md, with a context of 8 bits. -/
def ex : Config := ⟨0xA1#8, 200, 8⟩

/-- An initialised receiver (handler 3, context 7) in state `st`, with `count`, type, length, checksum and buffer. -/
def at' (c : Config) (st : RxState) (count ptype len : Byte) (crc : Word) (buf : Memory) : State :=
  ⟨c, ⟨st, count, 0xA1#8, ptype, len, crc, buf, some 3, 7, true⟩, [], []⟩

/-- Between frames. -/
def idle (c : Config) : State := at' c .empty 0#8 0#8 0#8 0#16 []

/-- Before the first `RX_INIT`, at the example constants. -/
def fresh : State := ⟨ex, Receiver.powerOn, [], []⟩

/-- V-F19's start: the frame of V-S1 but for its last byte. -/
def oneByteShort : State := at' ex .receivingPayload 1#8 0x02#8 0x02#8 0x3B7C#16 [(0, 0x10#8)]

/-- The state after, under a view of it. -/
def after {α : Type} (f : State → α) (o : Result) : Option α := (nextState? o).map f

theorem next_of_some {o : Result} {t : State} (h : nextState? o = some t) : o = .next t := by
  cases o <;> simp_all [nextState?]

/-! ## WellFormed: one ill-formed term for each check, refused -/

theorem test_wf_serialize_length_over_16_bits {payload : List Byte} (h : payload.length = 65536) :
    (Instr.serialize 0#8 payload).wf ex = false := by
  simp [Instr.wf, Config.serLenW, h]

theorem test_wf_some_payload_is_that_long : ∃ payload : List Byte, payload.length = 65536 :=
  ⟨List.replicate 65536 0#8, List.length_replicate⟩

theorem test_wf_context_too_wide : (Instr.rxInit 0 256).wf ex = false := by decide
theorem test_wf_emptyStart_not_the_marker : (Instr.feedEmptyStart 0x55#8).wf ex = false := by decide
theorem test_wf_emptyOther_the_marker : (Instr.feedEmptyOther 0xA1#8).wf ex = false := by decide
theorem test_wf_accept_over_maximum : (Instr.feedGotTypeAccept 201#8).wf ex = false := by decide
theorem test_wf_reject_at_maximum : (Instr.feedGotTypeReject 200#8).wf ex = false := by decide

/-! ## Decoding: every constructor by a word written out from the spec's encoding (R90, R92, R93, R165, R80) -/

theorem test_decode_crcUpdate : decodeTableWord 32 0b00010010_00110100_10100101_00000000 =
    some (.crcUpdate 0xA5#8 0x1234#16) := by decide
theorem test_decode_serialize : decode ex (.op [0b00000001#8, 0x02#8, 0x02#8, 0x00#8, 0x10#8, 0x20#8, 0x99#8]) =
    .ok (.serialize 0x02#8 [0x10#8, 0x20#8]) := by decide
theorem test_decode_rxInit : decode ex ⟨.opSelect, [0b00000010#8], 3, 0x107, false⟩ = .ok (.rxInit 3 7) := by decide
theorem test_decode_rxReset : decodeTableWord 8 0b00000011 = some .rxReset := by decide
theorem test_decode_rxFeedByte : decodeTableWord 16 0b01111100_00000100 = some (.rxFeedByte 0x7C#8) := by decide
theorem test_decode_reserved5 : decodeTableWord 8 0b00000101 = some .reservedOp5 := by decide
theorem test_decode_reserved6 : decodeTableWord 8 0b00000110 = some .reservedOp6 := by decide
theorem test_decode_reserved7 : decodeTableWord 8 0b00000111 = some .reservedOp7 := by decide
theorem test_decode_high_select_bits_ignored : decodeTableWord 8 0b11111011 = some .rxReset := by decide
theorem test_decode_emptyStart : decode ex (.row 0b000#8 0xA1#8 0#8 0#8) = .ok (.feedEmptyStart 0xA1#8) := by decide
theorem test_decode_emptyOther : decode ex (.row 0b000#8 0x55#8 0#8 0#8) = .ok (.feedEmptyOther 0x55#8) := by decide
theorem test_decode_gotStart : decode ex (.row 0b001#8 0xA1#8 0#8 0#8) = .ok (.feedGotStart 0xA1#8) := by decide
theorem test_decode_accept_at_maximum :
    decode ex (.row 0b010#8 0xC8#8 0#8 0#8) = .ok (.feedGotTypeAccept 0xC8#8) := by decide
theorem test_decode_reject_above_maximum :
    decode ex (.row 0b010#8 0xC9#8 0#8 0#8) = .ok (.feedGotTypeReject 0xC9#8) := by decide
theorem test_decode_gotLength : decode ex (.row 0b011#8 0x7C#8 2#8 0#8) = .ok (.feedGotLength 0x7C#8) := by decide
theorem test_decode_checksumHigh_zero :
    decode ex (.row 0b100#8 0x8E#8 0#8 0#8) = .ok (.feedGotChecksumHighZero 0x8E#8) := by decide
theorem test_decode_checksumHigh_nonzero :
    decode ex (.row 0b100#8 0x3B#8 2#8 0#8) = .ok (.feedGotChecksumHighNonzero 0x3B#8) := by decide
theorem test_decode_payload_last :
    decode ex (.row 0b101#8 0x20#8 2#8 1#8) = .ok (.feedReceivingPayloadLast 0x20#8) := by decide
theorem test_decode_payload_more :
    decode ex (.row 0b101#8 0x10#8 2#8 0#8) = .ok (.feedReceivingPayloadMore 0x10#8) := by decide
theorem test_decode_complete : decode ex (.row 0b110#8 0xA1#8 0#8 0#8) = .ok (.feedComplete 0xA1#8) := by decide
theorem test_decode_illegal7 : decode ex (.row 0b111#8 0xA1#8 0#8 0#8) = .ok (.feedIllegal7 0xA1#8) := by decide
theorem test_decode_completeHook : decode ex ⟨.internal, [0b110#8], 0, 0, false⟩ = .ok .completeHook := by decide
theorem test_decode_frameHeader : decodeTableWord 40 0xA10500008E =
    some (.frameHeader 0xA1#8 0x05#8 0x00#8 0x00#8 0x8E#8) := by decide
theorem test_decode_rejects_missing_operand : decode ex (.op [4#8]) = .error .missingOperand := by decide
theorem test_decode_rejects_short_payload :
    decode ex (.op [1#8, 2#8, 3#8, 0#8, 0x10#8]) = .error .payloadShort := by decide
theorem test_decode_rejects_other_hook_code :
    decode ex ⟨.internal, [0b101#8], 0, 0, false⟩ = .error .noSuchRow := by decide
theorem test_decode_rejects_long_header :
    decode ex ⟨.wireFrame, [0#8, 0#8, 0#8, 0#8, 0#8, 0#8], 0, 0, false⟩ = .error .wrongLength := by decide

/-! ## The checksum (V-C) -/

/-- V-C7, V-C14. -/
theorem test_crcUpdate_truncates : crcUpdate 0xFF#8 0x0000#16 = 0x0F78#16 ∧ crcUpdate 0x5A#8 0xFFFF#16 = 0xF258#16 := by
  decide

/-- V-C17: the catalogued check value over the ASCII digits. -/
theorem test_crcFold_check_value : crcFold 0xFFFF#16
    [0x31#8, 0x32#8, 0x33#8, 0x34#8, 0x35#8, 0x36#8, 0x37#8, 0x38#8, 0x39#8] = 0x6F91#16 := by decide

/-- V-C6 against the bit-serial recurrence. -/
theorem test_bitSerialStep : bitSerialStep 0x80#8 0x0000#16 = 0x8408#16 := by decide

/-! ## One step of each instruction -/

/-- V-C13. -/
theorem test_crcUpdate : after (·.trace) (exec (.crcUpdate 0xA5#8 0x1234#16) fresh) =
    some [.crcOut 0x8512#16] := by decide

/-- V-S1: the checksum 3B7C goes out as 7C, 3B. -/
theorem test_serialize : serialize ex 0x02#8 [0x10#8, 0x20#8] =
    .ok [0xA1#8, 0x02#8, 0x02#8, 0x7C#8, 0x3B#8, 0x10#8, 0x20#8] := by decide

/-- V-S12: with `MAX_PAYLOAD_SIZE = 0` every payload byte is too many. -/
theorem test_serialize_rejects : serialize ⟨0xA1#8, 0, 8⟩ 0x09#8 [0x00#8] = .err .oversizedPayload := by decide

/-- V-S11, written to a caller's buffer: bytes from offset 5 stay. -/
theorem test_serializeInto : serializeInto ⟨0xA1#8, 0, 8⟩ 0x09#8 [] [1#8, 1#8, 1#8, 1#8, 1#8, 1#8, 1#8] =
    some ([0xA1#8, 0x09#8, 0x00#8, 0xA0#8, 0x27#8, 1#8, 1#8], 5) := by decide

/-- V-F24. -/
theorem test_rxInit : after (fun t => (t.rx.state, t.rx.ctx, t.rx.inited)) (exec (.rxInit 3 7) fresh) =
    some (.empty, 7, true) := by decide

/-- V-F22. -/
theorem test_rxReset : after (fun t => (t.rx.state, t.rx.count, t.rx.payload)) (exec .rxReset oneByteShort) =
    some (.empty, 0#8, [(0, 0x10#8)]) := by decide

/-- V-F25. -/
theorem test_rxFeedByte_before_init : exec (.rxFeedByte 0#8) fresh = .refused .notInitialised := rfl

/-- V-F19 through `RX_FEED_BYTE`. -/
theorem test_rxFeedByte_dispatches : after (·.trace) (exec (.rxFeedByte 0x20#8) oneByteShort) =
    some [.dispatch (some 3) ⟨0xA1#8, 0x02#8, 0x02#8, 0x3B7C#16, [0x10#8, 0x20#8], 7⟩] := by decide

/-- V-F1. -/
theorem test_emptyStart : after (fun t => (t.rx.state, t.rx.pktStart)) (exec (.feedEmptyStart 0xA1#8) (idle ex)) =
    some (.gotStart, 0xA1#8) := by decide

/-- V-F2. -/
theorem test_emptyOther : nextState? (exec (.feedEmptyOther 0x55#8) (idle ex)) = some (idle ex) := by decide

/-- V-F5: the marker taken as a type. -/
theorem test_gotStart : after (fun t => (t.rx.state, t.rx.pktType))
    (exec (.feedGotStart 0xA1#8) (at' ex .gotStart 0#8 0#8 0#8 0#16 [])) = some (.gotType, 0xA1#8) := by decide

/-- V-F8: the maximum itself. -/
theorem test_gotType_accept : after (fun t => (t.rx.state, t.rx.pktLen))
    (exec (.feedGotTypeAccept 0xC8#8) (at' ex .gotType 0#8 7#8 0#8 0#16 [])) = some (.gotLength, 0xC8#8) := by decide

/-- V-F9: one above it; the stale length stays. -/
theorem test_gotType_reject : after (fun t => (t.rx.state, t.rx.pktLen, t.trace))
    (exec (.feedGotTypeReject 0xC9#8) (at' ex .gotType 0#8 7#8 2#8 0#16 [])) =
    some (.empty, 2#8, [.drop .invalidLengthField]) := by decide

/-- V-F11: a rejected length that equals the marker opens no attempt. -/
theorem test_gotType_reject_marker : after (·.rx.state)
    (exec (.rxFeedByte 0xA1#8) (at' ⟨0xA1#8, 16, 8⟩ .gotType 0#8 7#8 2#8 0#16 [])) = some .empty := by decide

/-- V-F13: the low half written, the high half kept. -/
theorem test_gotLength : after (fun t => (t.rx.state, t.rx.pktCrc))
    (exec (.feedGotLength 0x7C#8) (at' ex .gotLength 0#8 2#8 2#8 0x8E00#16 [])) =
    some (.gotChecksumHigh, 0x8E7C#16) := by decide

/-- V-F15. -/
theorem test_checksumHigh_zero : after (fun t => (t.rx.state, t.rx.pktCrc, t.trace))
    (exec (.feedGotChecksumHighZero 0x8E#8) (at' ex .gotChecksumHigh 0#8 5#8 0#8 0#16 [])) =
    some (.empty, 0x8E00#16, [.dispatch (some 3) ⟨0xA1#8, 5#8, 0#8, 0x8E00#16, [], 7⟩]) := by decide

/-- V-F16. -/
theorem test_checksumHigh_zero_mismatch : after (fun t => (t.rx.state, t.trace))
    (exec (.feedGotChecksumHighZero 0x8F#8) (at' ex .gotChecksumHigh 0#8 5#8 0#8 0#16 [])) =
    some (.empty, [.drop .checksumMismatch]) := by decide

/-- V-F14. -/
theorem test_checksumHigh_nonzero : after (fun t => (t.rx.state, t.rx.pktCrc, t.rx.count))
    (exec (.feedGotChecksumHighNonzero 0x3B#8) (at' ex .gotChecksumHigh 0#8 2#8 2#8 0x8E7C#16 [])) =
    some (.receivingPayload, 0x3B7C#16, 0#8) := by decide

/-- V-F20. -/
theorem test_payload_last_mismatch : after (fun t => (t.rx.state, t.rx.payload, t.trace))
    (exec (.feedReceivingPayloadLast 0x20#8)
      (at' ex .receivingPayload 1#8 2#8 2#8 0x3B7C#16 [(0, 0x11#8)])) =
    some (.empty, [(0, 0x11#8), (1, 0x20#8)], [.drop .checksumMismatch]) := by decide

/-- V-F21: a one-byte payload completes on its first byte. -/
theorem test_payload_last : after (·.trace) (exec (.feedReceivingPayloadLast 0xFF#8)
      (at' ex .receivingPayload 0#8 0xFF#8 1#8 0xE960#16 [])) =
    some [.dispatch (some 3) ⟨0xA1#8, 0xFF#8, 1#8, 0xE960#16, [0xFF#8], 7⟩] := by decide

/-- V-F18: the marker is data. -/
theorem test_payload_more : after (fun t => (t.rx.state, t.rx.count, t.rx.payload))
    (exec (.feedReceivingPayloadMore 0xA1#8) (at' ex .receivingPayload 0#8 2#8 3#8 0#16 [])) =
    some (.receivingPayload, 1#8, [(0, 0xA1#8)]) := by decide

/-- V-F26. -/
theorem test_complete : after (fun t => (t.rx.state, t.rx.count, t.trace))
    (exec (.feedComplete 0xA1#8) (at' ex .complete 0#8 5#8 0#8 0x8E00#16 [])) =
    some (.gotStart, 0#8, [.dispatch (some 3) ⟨0xA1#8, 5#8, 0#8, 0x8E00#16, [], 7⟩]) := by decide

/-- The hook on the packet of V-F26, before the byte. -/
theorem test_completeHook : after (fun t => (t.rx.state, dispatchCount t))
    (exec .completeHook (at' ex .complete 0#8 5#8 0#8 0x8E00#16 [])) = some (.empty, 1) := by decide

/-- V-S2's five bytes are a whole frame (L1-2). -/
theorem test_frameHeader : after (fun t => (t.rx.state, t.trace))
    (exec (.frameHeader 0xA1#8 5#8 0#8 0x00#8 0x8E#8) (idle ex)) =
    some (.empty, [.dispatch (some 3) ⟨0xA1#8, 5#8, 0#8, 0x8E00#16, [], 7⟩]) := by decide

/-- R92. -/
theorem test_reserved : exec .reservedOp5 fresh = .refused .reservedSelect ∧
    exec .reservedOp6 fresh = .refused .reservedSelect ∧ exec .reservedOp7 fresh = .refused .reservedSelect :=
  ⟨rfl, rfl, rfl⟩

/-- R172. -/
theorem test_illegal7 : exec (.feedIllegal7 0#8) (at' ex .illegal7 0#8 0#8 0#8 0#16 []) = .refused .illegalState := rfl

/-- V-E4: a bad length and a bad checksum give one drop, at the length byte. -/
theorem test_feed_bad_length : after (fun t => (t.rx.state, t.trace))
    (rxFeed [0xA1#8, 0x07#8, 0xC9#8, 0x7C#8, 0x3C#8, 0x10#8, 0x20#8] (idle ex)) =
    some (.empty, [.drop .invalidLengthField]) := by decide

/-- R178, C4: bit 1 of V-S7's length byte flipped, and type 02 with no payload is dispatched. -/
theorem test_flipped_length_bit : after (·.trace) (rxFeed (flippedFrame ex 0x02#8 [0xE7#8, 0x1F#8] 2 1) (idle ex)) =
    some [.dispatch (some 3) ⟨0xA1#8, 0x02#8, 0x00#8, 0xC308#16, [], 7⟩] := by decide

/-- R178 where it holds, L1-4: a flipped bit of the last payload byte of V-S1. -/
theorem test_flipped_payload_bit : after (·.trace) (rxFeed (flippedFrame ex 0x02#8 [0x10#8, 0x20#8] 6 0) (idle ex)) =
    some [.drop .checksumMismatch] := by decide

/-- R151 at the state value 7 (log entry 19). -/
theorem test_rxReset_at_7 : after (fun t => (t.rx.state, t.rx.count))
    (exec .rxReset (at' ex .illegal7 9#8 0#8 0#8 0#16 [])) = some (.empty, 0#8) := by decide

/-- R216, D23: the reset wins over the byte presented with it. -/
theorem test_reset_with_byte : after (·.rx.state) (execResetWithByte 0xA1#8 oneByteShort) = some .empty := by decide

/-! ## Witnesses: for each statement with hypotheses, a state and operands that meet them -/

/-- Smallest and largest builds. -/
def exMin : Config := ⟨0xA1#8, 0, 0⟩
def exMax : Config := ⟨0xA1#8, 255, 8⟩

theorem idle_good : GoodState (idle ex) :=
  ⟨by decide, by decide, by decide, by decide, by decide, by decide, by decide, by decide, by decide, by decide⟩

theorem oneByteShort_good : GoodState oneByteShort :=
  ⟨by decide, by decide, by decide, by decide, by decide, by decide, by decide, by decide, by decide, by decide⟩

theorem fresh_good : GoodState fresh :=
  ⟨by decide, by decide, by decide, by decide, by decide, by decide, by decide, by decide, by decide, by decide⟩

theorem witness_OneChangedByteChangesTheFold : (0x10#8 : Byte) ≠ 0x11#8 := by decide

theorem witness_OversizedPayloadWritesNothing_above_maximum :
    ex.maxPayloadSize.val < (List.replicate 201 (0#8 : Byte)).length := by
  rw [List.length_replicate]
  decide
theorem witness_OversizedPayloadWritesNothing_smallest_build :
    exMin.maxPayloadSize.val < ([0#8] : List Byte).length := by decide

theorem witness_SerializeWritesItsFrameOnly :
    ([0x10#8, 0x20#8] : List Byte).length ≤ ex.maxPayloadSize.val ∧ 5 + 2 ≤ (List.replicate 9 (1#8 : Byte)).length := by
  decide
theorem witness_SerializeWritesItsFrameOnly_exact_buffer :
    ([] : List Byte).length ≤ exMin.maxPayloadSize.val ∧ 5 + 0 ≤ (List.replicate 5 (1#8 : Byte)).length := by decide

theorem witness_DeclaredLengthIsPayloadCount : serialize ex 0xFF#8 [0xFF#8] =
    .ok [0xA1#8, 0xFF#8, 0x01#8, 0x60#8, 0xE9#8, 0xFF#8] := by decide

theorem witness_RxInitConstructsTheReceiver_widest_context : 255 < 2 ^ ex.ctxW ∧ 0 < 2 ^ exMin.ctxW := by decide

theorem witness_RxResetReturnsToEmpty : oneByteShort.rx.inited = true ∧
    (at' ex .illegal7 9#8 0#8 0#8 0#16 []).rx.inited = true := ⟨rfl, rfl⟩

theorem witness_UninitialisedReceiverIsRefused : fresh.rx.inited = false := rfl

theorem witness_EmptyRowsHuntForTheMarker : (idle ex).rx.inited = true ∧ (idle ex).rx.state = .empty ∧
    0xA1#8 = (idle ex).cfg.startMarker ∧ 0xA0#8 ≠ (idle ex).cfg.startMarker := by decide

theorem witness_HeaderRowsRecordTheirByte_type :
    (at' ex .gotStart 0#8 0#8 0#8 0#16 []).rx.inited = true ∧
    (at' ex .gotStart 0#8 0#8 0#8 0#16 []).rx.state = .gotStart := by decide
theorem witness_HeaderRowsRecordTheirByte_length_at_maximum :
    (at' ex .gotType 0#8 7#8 0#8 0#16 []).rx.inited = true ∧ (at' ex .gotType 0#8 7#8 0#8 0#16 []).rx.state = .gotType ∧
    (200#8).toNat ≤ ex.maxPayloadSize.val ∧ (0#8).toNat ≤ exMin.maxPayloadSize.val ∧
    (255#8).toNat ≤ exMax.maxPayloadSize.val := by decide
theorem witness_HeaderRowsRecordTheirByte_checksumLow :
    (at' ex .gotLength 0#8 7#8 0#8 0#16 []).rx.inited = true ∧
    (at' ex .gotLength 0#8 7#8 0#8 0#16 []).rx.state = .gotLength := by decide

theorem witness_OversizedLengthIsDropped :
    (at' ex .gotType 0#8 7#8 2#8 0#16 []).rx.inited = true ∧ (at' ex .gotType 0#8 7#8 2#8 0#16 []).rx.state = .gotType ∧
    ex.maxPayloadSize.val < (201#8).toNat ∧ exMin.maxPayloadSize.val < (1#8).toNat := by decide

theorem witness_ChecksumHighRows_no_payload :
    (at' ex .gotChecksumHigh 0#8 5#8 0#8 0#16 []).rx.inited = true ∧
    (at' ex .gotChecksumHigh 0#8 5#8 0#8 0#16 []).rx.state = .gotChecksumHigh ∧
    (at' ex .gotChecksumHigh 0#8 5#8 0#8 0#16 []).rx.pktLen = 0#8 := by decide
theorem witness_ChecksumHighRows_payload :
    (at' ex .gotChecksumHigh 0#8 5#8 1#8 0#16 []).rx.inited = true ∧
    (at' ex .gotChecksumHigh 0#8 5#8 1#8 0#16 []).rx.state = .gotChecksumHigh ∧
    (at' ex .gotChecksumHigh 0#8 5#8 1#8 0#16 []).rx.pktLen ≠ 0#8 := by decide

/-- The last index of the largest buffer, on the last byte of the longest payload. -/
theorem witness_PayloadRowsAppend_last :
    (at' exMax .receivingPayload 254#8 5#8 255#8 0#16 []).rx.inited = true ∧
    (at' exMax .receivingPayload 254#8 5#8 255#8 0#16 []).rx.state = .receivingPayload ∧
    (at' exMax .receivingPayload 254#8 5#8 255#8 0#16 []).rx.count.toNat < exMax.maxPayloadSize.val ∧
    (at' exMax .receivingPayload 254#8 5#8 255#8 0#16 []).rx.count + 1#8 =
      (at' exMax .receivingPayload 254#8 5#8 255#8 0#16 []).rx.pktLen := by decide
theorem witness_PayloadRowsAppend_more :
    (at' ex .receivingPayload 198#8 5#8 200#8 0#16 []).rx.inited = true ∧
    (at' ex .receivingPayload 198#8 5#8 200#8 0#16 []).rx.state = .receivingPayload ∧
    (at' ex .receivingPayload 198#8 5#8 200#8 0#16 []).rx.count.toNat < ex.maxPayloadSize.val ∧
    (at' ex .receivingPayload 198#8 5#8 200#8 0#16 []).rx.count + 1#8 ≠
      (at' ex .receivingPayload 198#8 5#8 200#8 0#16 []).rx.pktLen := by decide

/-- The first index the buffer does not have, with either row selected. -/
theorem witness_BufferHasNoIndexBeyondItsCapacity_write :
    (at' ex .receivingPayload 200#8 5#8 201#8 0#16 []).rx.inited = true ∧
    (at' ex .receivingPayload 200#8 5#8 201#8 0#16 []).rx.state = .receivingPayload ∧
    ex.maxPayloadSize.val ≤ (at' ex .receivingPayload 200#8 5#8 201#8 0#16 []).rx.count.toNat ∧
    (at' ex .receivingPayload 200#8 5#8 201#8 0#16 []).rx.count + 1#8 = 201#8 ∧
    (at' ex .receivingPayload 200#8 5#8 202#8 0#16 []).rx.count + 1#8 ≠ 202#8 := by decide
theorem witness_BufferHasNoIndexBeyondItsCapacity_read :
    (at' ex .complete 0#8 5#8 201#8 0#16 []).rx.inited = true ∧
    (at' ex .complete 0#8 5#8 201#8 0#16 []).rx.state = .complete ∧
    ex.maxPayloadSize.val < (at' ex .complete 0#8 5#8 201#8 0#16 []).rx.pktLen.toNat := by decide

/-- The longest packet the buffer can hold, and the empty one in the smallest build. -/
theorem witness_CompleteHookValidatesAndDispatches :
    (at' ex .complete 0#8 5#8 200#8 0#16 []).rx.inited = true ∧
    (at' ex .complete 0#8 5#8 200#8 0#16 []).rx.state = .complete ∧
    (at' ex .complete 0#8 5#8 200#8 0#16 []).rx.pktLen.toNat ≤ ex.maxPayloadSize.val ∧
    (at' exMin .complete 0#8 5#8 0#8 0#16 []).rx.pktLen.toNat ≤ exMin.maxPayloadSize.val := by decide
theorem witness_CompleteRowReprocessesTheByte :
    (at' ex .complete 0#8 5#8 0#8 0x8E00#16 []).rx.inited = true ∧
    (at' ex .complete 0#8 5#8 0#8 0x8E00#16 []).rx.state = .complete ∧
    (at' ex .complete 0#8 5#8 0#8 0x8E00#16 []).rx.pktLen.toNat ≤ ex.maxPayloadSize.val := by decide

theorem witness_IllegalStateIsRefused :
    (at' ex .illegal7 0#8 0#8 0#8 0#16 []).rx.inited = true ∧
    (at' ex .illegal7 0#8 0#8 0#8 0#16 []).rx.state = .illegal7 := by decide

/-- `s` with the host's list as given. -/
def issuing (s : State) (rs : List Request) : State := { s with pending := rs }

theorem witness_ReservedSelectsAreRefused :
    (issuing (idle ex) [.op [0b11111101#8]]).pending.head? = some (.op [0b11111101#8]) ∧
    (Request.op [0b11111101#8]).format = .opSelect ∧ (Request.op [0b11111101#8]).bytes = [0b11111101#8] ∧
    5 ≤ (0b11111101#8).toNat % 8 := by decide

theorem witness_RxFeedByteRunsTheSelectedRow : (idle ex).rx.inited = true ∧ oneByteShort.rx.inited = true := by decide

theorem witness_ExactlyOneRowIsSelected : oneByteShort.rx.inited = true ∧
    Instr.feedReceivingPayloadLast 0x20#8 ∈ feedRows 0x20#8 ∧ Instr.feedEmptyStart 0x20#8 ∈ feedRows 0x20#8 ∧
    oneByteShort.rx.state ≠ .complete ∧ fresh.rx.inited = false := by decide

theorem witness_RxFeedByteCompletes : GoodState oneByteShort ∧ oneByteShort.rx.inited = true ∧
    oneByteShort.rx.state = .receivingPayload := ⟨oneByteShort_good, rfl, rfl⟩
theorem witness_RxFeedByteCompletes_elsewhere : GoodState (idle ex) ∧ (idle ex).rx.inited = true ∧
    (idle ex).rx.state ≠ .receivingPayload := ⟨idle_good, rfl, by decide⟩

/-- The state after V-F19's byte. -/
def dispatched : State := ⟨ex, ⟨.empty, 0#8, 0xA1#8, 2#8, 2#8, 0x3B7C#16, [(0, 0x10#8), (1, 0x20#8)], some 3, 7, true⟩,
  [], [.dispatch (some 3) ⟨0xA1#8, 2#8, 2#8, 0x3B7C#16, [0x10#8, 0x20#8], 7⟩]⟩

theorem feed_dispatches : exec (.rxFeedByte 0x20#8) oneByteShort = .next dispatched := next_of_some (by decide)

/-- For `FeedNeverRestsInComplete`, from the state in which the defensive row runs. -/
theorem witness_FeedNeverRestsInComplete :
    ∃ t, exec (.rxFeedByte 0x55#8) (at' ex .complete 0#8 5#8 0#8 0x8E00#16 []) = .next t := ⟨_, rfl⟩

theorem witness_EachFeedEmitsAtMostOneEvent : GoodState oneByteShort ∧
    exec (.rxFeedByte 0x20#8) oneByteShort = .next dispatched := ⟨oneByteShort_good, feed_dispatches⟩

theorem witness_NoiseBetweenFramesIsIgnored : (idle ex).rx.inited = true ∧ (idle ex).rx.state = .empty ∧
    ∀ b ∈ [0x00#8, 0xA0#8, 0xA2#8, 0xFF#8], b ≠ (idle ex).cfg.startMarker := by decide

/-- Four bytes, all of a frame with no payload but its last. -/
theorem witness_NoDispatchWithinFourBytes : (idle ex).rx.state = .empty ∧
    [0xA1#8, 5#8, 0#8, 0x00#8].length < 5 ∧
    rxFeed [0xA1#8, 5#8, 0#8, 0x00#8] (idle ex) = .next (at' ex .gotChecksumHigh 0#8 5#8 0#8 0#16 []) :=
  ⟨rfl, by decide, next_of_some (by decide)⟩

/-- All but the last payload byte, in the longest frame the build accepts. -/
theorem witness_BytesInsidePayloadAreData :
    (at' exMax .receivingPayload 253#8 2#8 255#8 0#16 []).rx.inited = true ∧
    (at' exMax .receivingPayload 253#8 2#8 255#8 0#16 []).rx.state = .receivingPayload ∧
    (at' exMax .receivingPayload 253#8 2#8 255#8 0#16 []).rx.count.toNat + [0xA1#8].length < (255#8).toNat ∧
    (255#8).toNat ≤ exMax.maxPayloadSize.val := by decide

theorem idle_Idle (c : Config) : Idle (idle c) := ⟨rfl, rfl, rfl⟩

theorem witness_FrameHeaderIsConsumedInOrder : Idle (idle ex) ∧ 0xA1#8 = (idle ex).cfg.startMarker ∧
    (200#8).toNat ≤ ex.maxPayloadSize.val ∧ (200#8 : Byte) ≠ 0#8 := ⟨idle_Idle ex, by decide⟩
theorem witness_FrameHeaderIsConsumedInOrder_no_payload : Idle (idle exMin) ∧ 0xA1#8 = (idle exMin).cfg.startMarker ∧
    (0#8).toNat ≤ exMin.maxPayloadSize.val := ⟨idle_Idle exMin, by decide⟩

/-- The sender's build allows longer payloads than the receiver's. -/
theorem witness_SerializedFrameIsDispatchedOnce : Idle (idle ex) ∧ exMax.startMarker = (idle ex).cfg.startMarker ∧
    ([0x10#8, 0x20#8] : List Byte).length ≤ ex.maxPayloadSize.val ∧
    serialize exMax 0x02#8 [0x10#8, 0x20#8] = .ok [0xA1#8, 0x02#8, 0x02#8, 0x7C#8, 0x3B#8, 0x10#8, 0x20#8] :=
  ⟨idle_Idle ex, by decide⟩

theorem witness_BackToBackFramesAreAllDispatched : Idle (idle ex) ∧
    ∀ p ∈ ([(0x05#8, []), (0x02#8, [0x10#8, 0x20#8])] : List (Byte × List Byte)),
      p.2.length ≤ (idle ex).cfg.maxPayloadSize.val := ⟨idle_Idle ex, by decide⟩

theorem witness_HostProgramDeliversTheFrame : serialize fresh.cfg 0x05#8 [] =
    .ok [0xA1#8, 0x05#8, 0x00#8, 0x00#8, 0x8E#8] := by decide

theorem witness_ResynchronisesAfterBadLength : Idle (idle ex) ∧ (idle ex).cfg.maxPayloadSize.val < (201#8).toNat ∧
    ([0x10#8, 0x20#8] : List Byte).length ≤ (idle ex).cfg.maxPayloadSize.val := ⟨idle_Idle ex, by decide⟩

/-- The first and the last position the statement covers, and the second checksum byte. -/
theorem witness_OneCorruptedByteSuppressesDispatch : Idle (idle ex) ∧
    ([0x10#8, 0x20#8] : List Byte).length ≤ (idle ex).cfg.maxPayloadSize.val ∧
    sensitiveOffset 2 1 = true ∧ (serializedFrame ex 0x02#8 [0x10#8, 0x20#8])[1]? ≠ some 0x03#8 ∧
    sensitiveOffset 2 4 = true ∧ (serializedFrame ex 0x02#8 [0x10#8, 0x20#8])[4]? ≠ some 0x7C#8 ∧
    sensitiveOffset 2 6 = true ∧ (serializedFrame ex 0x02#8 [0x10#8, 0x20#8])[6]? ≠ some 0x21#8 :=
  ⟨idle_Idle ex, by decide⟩

theorem witness_FlippedLengthBitCanDispatch : Idle (idle ex) ∧ (idle ex).cfg.startMarker = 0xA1#8 ∧
    (idle ex).cfg.maxPayloadSize = 200 := ⟨idle_Idle ex, by decide⟩

theorem issuing_good {s : State} (h : GoodState s) (rs : List Request) : GoodState (issuing s rs) :=
  ⟨h.resting, h.lenFits, h.countBelowLen, h.countZero, h.startIsMarker, h.storedBelowCount, h.bufferCanonical,
    h.bufferBounded, h.ctxFits, h.handlerBound⟩

theorem witness_EveryStepKeepsTheInvariants : GoodState (issuing oneByteShort [encode (.rxFeedByte 0x20#8)]) ∧
    step (issuing oneByteShort [encode (.rxFeedByte 0x20#8)]) = .next dispatched :=
  ⟨issuing_good oneByteShort_good _, next_of_some (by decide)⟩

theorem witness_ContractedHostIsNeverStopped : GoodState (issuing oneByteShort [encode (.rxFeedByte 0x20#8)]) ∧
    WithinContract (issuing oneByteShort [encode (.rxFeedByte 0x20#8)]) := by
  refine ⟨issuing_good oneByteShort_good _, fun r hr => ⟨.rxFeedByte 0x20#8, ?_⟩⟩
  cases hr
  decide

/-- Before `RX_INIT`, from inside a handler of another instance: a stateless operation. -/
theorem witness_ContractedHostIsNeverStopped_before_init :
    GoodState (issuing fresh [{ encode (.crcUpdate 0x02#8 0xFFFF#16) with overlaps := true }]) ∧
    WithinContract (issuing fresh [{ encode (.crcUpdate 0x02#8 0xFFFF#16) with overlaps := true }]) := by
  refine ⟨issuing_good fresh_good _, fun r hr => ⟨.crcUpdate 0x02#8 0xFFFF#16, ?_⟩⟩
  cases hr
  decide

theorem witness_NoBoundsFaultFromGoodStates : GoodState oneByteShort := oneByteShort_good

theorem witness_OnlyInitBindsHandlerAndContext : exec (.rxFeedByte 0x20#8) oneByteShort = .next dispatched ∧
    ∀ h ctx, Instr.rxFeedByte 0x20#8 ≠ .rxInit h ctx := ⟨feed_dispatches, fun _ _ => nofun⟩

theorem witness_BufferIsWrittenAtCountOnly : exec (.rxFeedByte 0x20#8) oneByteShort = .next dispatched ∧
    (∀ m x l lo hi, Instr.rxFeedByte 0x20#8 ≠ .frameHeader m x l lo hi) ∧ oneByteShort.rx.state = .receivingPayload ∧
    0 ≠ oneByteShort.rx.count.toNat := ⟨feed_dispatches, fun _ _ _ _ _ => nofun, rfl, by decide⟩

theorem witness_EmittedEventsNeverChange : exec .rxReset dispatched = .next dispatched := rfl

theorem witness_EveryDispatchIsAValidPacket : GoodState oneByteShort ∧
    exec (.rxFeedByte 0x20#8) oneByteShort = .next dispatched ∧ dispatched.trace = oneByteShort.trace ++ dispatched.trace ∧
    Event.dispatch (some 3) ⟨0xA1#8, 2#8, 2#8, 0x3B7C#16, [0x10#8, 0x20#8], 7⟩ ∈ dispatched.trace :=
  ⟨oneByteShort_good, feed_dispatches, rfl, by decide⟩

/-- The same frame in progress over another stale byte. -/
def oneByteShortStale : State := at' ex .receivingPayload 1#8 0x02#8 0x02#8 0x3B7C#16 [(0, 0x10#8), (1, 0x77#8)]

theorem witness_StaleStateIsNeverExposed : GoodState oneByteShort ∧ GoodState oneByteShortStale ∧
    SameButStale oneByteShort oneByteShortStale ∧ oneByteShort ≠ oneByteShortStale ∧
    exec (.rxFeedByte 0x20#8) oneByteShort = .next dispatched :=
  ⟨oneByteShort_good,
    ⟨by decide, by decide, by decide, by decide, by decide, by decide, by decide, by decide, by decide, by decide⟩,
    ⟨rfl, rfl, rfl, rfl, rfl, rfl, fun _ => rfl, fun _ _ => rfl, fun _ => rfl, fun _ => rfl, fun _ => rfl, by decide⟩,
    by decide, feed_dispatches⟩

theorem witness_StatelessOperationsCommute :
    exec (.crcUpdate 0x02#8 0xFFFF#16) oneByteShort = .next (emit (.crcOut 0x2C95#16) oneByteShort) ∧
    exec (.rxFeedByte 0x20#8) (emit (.crcOut 0x2C95#16) oneByteShort) =
      .next { dispatched with trace := .crcOut 0x2C95#16 :: dispatched.trace } :=
  ⟨next_of_some (by decide), next_of_some (by decide)⟩

theorem witness_InstancesAreIndependent :
    Links.execOn 1 .rxReset [fresh, dispatched, oneByteShort] = .next [fresh, dispatched, oneByteShort] ∧
    ([idle ex, dispatched] : Links)[1]? = ([fresh, dispatched, oneByteShort] : Links)[1]? := ⟨rfl, rfl⟩

theorem witness_IdleBlockChangesNothing : oneByteShort.pending = [] := rfl

theorem witness_StepRunsTheDecodedInstruction :
    (issuing fresh [encode (.rxInit 3 7)]).pending = encode (.rxInit 3 7) :: [] ∧
    decode fresh.cfg (encode (.rxInit 3 7)) = .ok (.rxInit 3 7) ∧
    ((encode (.rxInit 3 7)).overlaps = true → drivesReceiver (.rxInit 3 7) = false) := by decide

theorem witness_OverlappingReceiverOperationIsRefused :
    (issuing oneByteShort [{ encode .rxReset with overlaps := true }]).pending.head? =
      some { encode .rxReset with overlaps := true } ∧
    decode ex { encode .rxReset with overlaps := true } = .ok .rxReset ∧
    decode ex { encode (.rxInit 3 7) with overlaps := true } = .ok (.rxInit 3 7) ∧
    decode ex { encode (.rxFeedByte 0x20#8) with overlaps := true } = .ok (.rxFeedByte 0x20#8) ∧
    decode ex { encode (.feedGotStart 2#8) with overlaps := true } = .ok (.feedGotStart 2#8) ∧
    Instr.feedGotStart 2#8 ∈ feedRows 2#8 ∧
    decode ex { encode .completeHook with overlaps := true } = .ok .completeHook ∧
    decode ex { encode (.frameHeader 0xA1#8 5#8 0#8 0#8 0x8E#8) with overlaps := true } =
      .ok (.frameHeader 0xA1#8 5#8 0#8 0#8 0x8E#8) := by decide
theorem witness_OverlappingReceiverOperationIsRefused_stateless :
    (issuing oneByteShort [{ encode (.serialize 2#8 []) with overlaps := true }]).pending.head? =
      some { encode (.serialize 2#8 []) with overlaps := true } ∧
    decode ex { encode (.serialize 2#8 []) with overlaps := true } = .ok (.serialize 2#8 []) := by decide

theorem witness_RequestsThatAreNoInstructionAreRefused_payload :
    (issuing fresh [.op [1#8, 2#8, 2#8, 0#8, 0x10#8]]).pending.head? = some (.op [1#8, 2#8, 2#8, 0#8, 0x10#8]) ∧
    (1#8).toNat % 8 = 1 ∧ [0x10#8].length < (0#8 ++ 2#8 : Word).toNat ∧
    (0#8 ++ 2#8 : Word).toNat ≤ [0x10#8, 0x20#8].length ∧
    (0#8 ++ 2#8 : Word).toNat ≤ [0x10#8, 0x20#8, 0x99#8].length := by decide
theorem witness_RequestsThatAreNoInstructionAreRefused_operand :
    (issuing fresh [.op []]).pending.head? = some (.op []) ∧
    (0#8).toNat % 8 = 0 ∧ [0x02#8, 0xFF#8].length < 3 ∧ (1#8).toNat % 8 = 1 ∧ [0x02#8, 0x00#8].length < 3 ∧
    (4#8).toNat % 8 = 4 ∧ ([] : List Byte).length < 1 := by decide
theorem witness_RequestsThatAreNoInstructionAreRefused_length :
    (issuing fresh [⟨.rxTransition, [0#8, 0#8, 0#8], 0, 0, false⟩]).pending.head? =
      some ⟨.rxTransition, [0#8, 0#8, 0#8], 0, 0, false⟩ ∧ [0#8, 0#8, 0#8].length ≠ 4 ∧
    ([] : List Byte).length ≠ 1 ∧ [6#8, 6#8].length ≠ 1 ∧ [0#8, 0#8, 0#8, 0#8, 0#8, 0#8].length ≠ 5 := by decide
theorem witness_RequestsThatAreNoInstructionAreRefused_code :
    (issuing fresh [⟨.internal, [5#8], 0, 0, false⟩]).pending.head? = some ⟨.internal, [5#8], 0, 0, false⟩ ∧
    (5#8).toNat % 8 ≠ 6 := by decide

/-- Operands at the ends of their ranges. -/
theorem witness_DecodeOfEncodeIsTheInstruction :
    (Instr.rxInit 3 255).wf ex = true ∧ (Instr.serialize 0xFF#8 (List.replicate 9 0xFF#8)).wf ex = true ∧
    (Instr.feedGotTypeAccept 200#8).wf ex = true ∧ (Instr.feedGotTypeReject 201#8).wf ex = true ∧
    (Instr.feedEmptyStart 0xA1#8).wf ex = true ∧ (Instr.feedEmptyOther 0xA2#8).wf ex = true ∧
    (Instr.frameHeader 0xA1#8 0xFF#8 0xFF#8 0xFF#8 0xFF#8).wf ex = true := by decide

theorem witness_DecodedInstructionsAreWellFormed :
    decode ex (.row 2#8 201#8 0#8 0#8) = .ok (.feedGotTypeReject 201#8) := by decide

end Sys2Proof.Tests
end

section
/-! PROOFS. What issuing a request and one step do, an equation per case (R8, R9, R59, R174). -/

namespace Sys2Proof.Machine

theorem issue_of_decode_error {s : State} {r : Request} {e : DecodeReject} (hd : decode s.cfg r = .error e) :
    issue r s = .refused (refusalOf e) := by
  simp only [issue, hd]

theorem issue_of_overlap {s : State} {r : Request} {i : Instr} (hd : decode s.cfg r = .ok i)
    (ho : r.overlaps = true) (hi : drivesReceiver i = true) : issue r s = .refused .overlappingOperation := by
  simp [issue, hd, ho, hi]

theorem issue_eq_exec {s : State} {r : Request} {i : Instr} (hd : decode s.cfg r = .ok i)
    (ho : r.overlaps = true → drivesReceiver i = false) : issue r s = exec i s := by
  have hguard : ¬ (r.overlaps && drivesReceiver i) = true := by simpa using ho
  simp only [issue, hd, if_neg hguard]

theorem step_of_pending_nil {s : State} (hp : s.pending = []) : step s = .next s := by
  simp only [step, takeRequest, hp]

theorem step_of_pending_cons {s : State} {r : Request} {rest : List Request} (hp : s.pending = r :: rest) :
    step s = issue r { s with pending := rest } := by
  simp only [step, takeRequest, hp]

end Sys2Proof.Machine

open Sys2Proof Sys2Proof.Machine

/-- Settles O54: the step takes the request off the list, which the decoder does not read (it reads `cfg` only), and
issues it; the overlap guard is off. -/
theorem stepRunsTheDecodedInstruction : Obligations.StepRunsTheDecodedInstruction := by
  intro s r rest i hp hd ho
  calc step s = issue r { s with pending := rest } := step_of_pending_cons hp
    _ = exec i { s with pending := rest } := issue_eq_exec hd ho

end

section
/-! PROOFS. What an instruction that answers a next state has done: an equation for the byte step (R153), the row the
decode table selects (R93), and one case per kind of instruction (R90). -/

namespace Sys2Proof.Machine

/-! ### The byte step -/

/-- The state after `payload[count] <- b; count <- count + 1` (R56). -/
def appendByte (b : Byte) (s : State) : State :=
  { s with rx := { s.rx with payload := s.rx.payload.write s.rx.count.toNat b, count := s.rx.count + 1#8 } }

@[simp] theorem appendByte_cfg (b : Byte) (s : State) : (appendByte b s).cfg = s.cfg := rfl
@[simp] theorem appendByte_trace (b : Byte) (s : State) : (appendByte b s).trace = s.trace := rfl
@[simp] theorem appendByte_rx_state (b : Byte) (s : State) : (appendByte b s).rx.state = s.rx.state := rfl
@[simp] theorem appendByte_rx_count (b : Byte) (s : State) : (appendByte b s).rx.count = s.rx.count + 1#8 := rfl
@[simp] theorem appendByte_rx_pktLen (b : Byte) (s : State) : (appendByte b s).rx.pktLen = s.rx.pktLen := rfl
@[simp] theorem appendByte_rx_payload (b : Byte) (s : State) :
    (appendByte b s).rx.payload = s.rx.payload.write s.rx.count.toNat b := rfl

theorem storePayload_of_lt {b : Byte} {s : State} (h : s.rx.count.toNat < s.cfg.maxLen) :
    storePayload b s = .next (appendByte b s) := storePayload_eq_next.mpr ⟨h, rfl⟩

theorem runHook_of_le {s : State} (h : s.rx.pktLen.toNat ≤ s.cfg.maxLen) : runHook s = .next (validate s) :=
  runHook_eq_next.mpr ⟨h, rfl⟩

/-- What `RX_FEED_BYTE(b)` leaves behind where it answers: the row of the resting state, with the hook of R165 in the
same operation where the row completes the frame; in `Complete`, the hook and then the `Empty` row (R164). -/
def feedNext (b : Byte) (s : State) : State :=
  match s.rx.state with
  | .empty => tEmpty b s
  | .gotStart => tGotStart b s
  | .gotType => if lengthAccepted b s then tGotTypeAccept b s else tGotTypeReject b s
  | .gotLength => tGotLength b s
  | .gotChecksumHigh => if noPayload s then validate (tGchZero b s) else tGchNonzero b s
  | .receivingPayload =>
    if isLastByte s then validate (setRxState .complete (appendByte b s)) else appendByte b s
  | .complete => tEmpty b (validate s)
  | .illegal7 => s

/-- The states in which `RX_FEED_BYTE` answers: initialised, not 7, and with every buffer index it uses in the buffer
(R172, R173, R50). -/
structure FeedRuns (s : State) : Prop where
  inited : s.rx.inited = true
  legal : s.rx.state ≠ .illegal7
  storeFits : s.rx.state = .receivingPayload → s.rx.count.toNat < s.cfg.maxLen
  packetFits : s.rx.state = .complete → s.rx.pktLen.toNat ≤ s.cfg.maxLen

theorem isLastByte_iff {s : State} : isLastByte s = true ↔ s.rx.count + 1#8 = s.rx.pktLen := by
  simp [isLastByte]

theorem noPayload_iff {s : State} : noPayload s = true ↔ s.rx.pktLen = 0#8 := by
  simp [noPayload]

/-- Adding one to a byte below another does not wrap round. -/
theorem toNat_succ_of_lt {c : Byte} {n : Nat} (h : c.toNat < n) (hn : n < 256) : (c + 1#8).toNat = c.toNat + 1 := by
  simp only [BitVec.toNat_add, BitVec.toNat_ofNat]
  omega

/-- The packet whose last byte has an index in the buffer is no longer than the buffer (R162, C8). -/
theorem pktLen_le_of_isLastByte {s : State} (hc : s.rx.count.toNat < s.cfg.maxLen) (hl : isLastByte s = true) :
    s.rx.pktLen.toNat ≤ s.cfg.maxLen := by
  rw [← isLastByte_iff.mp hl, toNat_succ_of_lt hc s.cfg.maxPayloadSize.isLt]
  exact hc

theorem tEmpty_rx_state_ne_complete {b : Byte} {s : State} (hs : s.rx.state = .empty) :
    (tEmpty b s).rx.state ≠ .complete := by
  unfold tEmpty
  split <;> simp [hs]

theorem execRxFeedByte_of_feedRuns {b : Byte} {s : State} (h : FeedRuns s) :
    execRxFeedByte b s = .next (feedNext b s) := by
  obtain ⟨hi, h7, hstore, hpacket⟩ := h
  by_cases h6 : s.rx.state = .complete
  · have hne : (tEmpty b (validate s)).rx.state ≠ .complete := tEmpty_rx_state_ne_complete (by simp)
    simp [execRxFeedByte, hi, h6, hookIfComplete_of_eq, runHook_of_le (hpacket h6), transition, feedNext,
      hookIfComplete_of_ne hne]
  rw [execRxFeedByte_of_resting hi h6 h7]
  cases hs : s.rx.state with
  | empty => simp [transition, feedNext, hs, hookIfComplete_of_ne (tEmpty_rx_state_ne_complete hs)]
  | gotStart => simp [transition, feedNext, hs, hookIfComplete]
  | gotType =>
    by_cases hl : lengthAccepted b s = true <;>
      simp [transition, feedNext, hs, hl, hookIfComplete, tGotTypeReject]
  | gotLength => simp [transition, feedNext, hs, hookIfComplete]
  | gotChecksumHigh =>
    by_cases hz : noPayload s = true
    · have hfits : (tGchZero b s).rx.pktLen.toNat ≤ (tGchZero b s).cfg.maxLen := by simp [noPayload_iff.mp hz]
      simp [transition, feedNext, hs, hz, hookIfComplete, runHook_of_le hfits]
    · simp [transition, feedNext, hs, hz, hookIfComplete]
  | receivingPayload =>
    have hc := hstore hs
    by_cases hl : isLastByte s = true
    · have hfits : (setRxState .complete (appendByte b s)).rx.pktLen.toNat ≤
          (setRxState .complete (appendByte b s)).cfg.maxLen := by
        simpa using pktLen_le_of_isLastByte hc hl
      simp [transition, feedNext, hs, hl, tRpLast, storePayload_of_lt hc, hookIfComplete, runHook_of_le hfits]
    · simp [transition, feedNext, hs, hl, tRpMore, storePayload_of_lt hc, hookIfComplete]
  | complete => exact absurd hs h6
  | illegal7 => exact absurd hs h7

theorem feedRuns_of_execRxFeedByte {b : Byte} {s t : State} (h : execRxFeedByte b s = .next t) : FeedRuns s := by
  unfold execRxFeedByte at h
  split at h
  next hi =>
    split at h
    next => cases h
    next h7 =>
      obtain ⟨v, hv, -⟩ := andThen_eq_next.mp h
      obtain ⟨u, hu, htrans⟩ := andThen_eq_next.mp hv
      refine ⟨hi, h7, fun hs => ?_, fun hs => ?_⟩
      · rw [hookIfComplete_of_ne (by simp [hs])] at hu
        cases hu
        simp only [transition, hs, tRpLast, tRpMore] at htrans
        split at htrans
        · obtain ⟨_, hstore, -⟩ := andThen_eq_next.mp htrans
          exact (storePayload_eq_next.mp hstore).1
        · exact (storePayload_eq_next.mp htrans).1
      · rw [hookIfComplete_of_eq hs] at hu
        exact (runHook_eq_next.mp hu).1
  next => cases h

/-- What `RX_FEED_BYTE` can do, in every state. -/
theorem execRxFeedByte_eq_next {b : Byte} {s t : State} :
    execRxFeedByte b s = .next t ↔ FeedRuns s ∧ t = feedNext b s := by
  constructor
  · intro h
    have hr := feedRuns_of_execRxFeedByte h
    rw [execRxFeedByte_of_feedRuns hr] at h
    cases h
    exact ⟨hr, rfl⟩
  · rintro ⟨hr, rfl⟩
    exact execRxFeedByte_of_feedRuns hr

/-- Feeding one byte and then the rest. -/
theorem rxFeed_cons_eq_next {b : Byte} {bs : List Byte} {s t : State} :
    rxFeed (b :: bs) s = .next t ↔ FeedRuns s ∧ rxFeed bs (feedNext b s) = .next t := by
  rw [rxFeed_cons, andThen_eq_next]
  constructor
  · rintro ⟨u, hu, ht⟩
    obtain ⟨hr, rfl⟩ := execRxFeedByte_eq_next.mp hu
    exact ⟨hr, ht⟩
  · rintro ⟨hr, ht⟩
    exact ⟨_, execRxFeedByte_of_feedRuns hr, ht⟩

/-! ### The selected row -/

/-- The row that the decode table selects for the byte `b` (R93). -/
def selectedRow (b : Byte) (s : State) : Instr := decodeRow s.cfg (stateCode s.rx.state) b s.rx.pktLen s.rx.count

/-- The row selected on an initialised receiver does what `RX_FEED_BYTE` does, stops included. -/
theorem exec_selectedRow (b : Byte) {s : State} (hi : s.rx.inited = true) :
    exec (selectedRow b s) s = execRxFeedByte b s := by
  cases hs : s.rx.state <;> simp only [selectedRow, decodeRow, stateCode, hs]
  case empty =>
    by_cases hm : b = s.cfg.startMarker <;>
      simp [exec, execFeedEmptyStart, execFeedEmptyOther, runRow, hi, hs, isMarker, hm, execRxFeedByte, transition,
        tEmpty, hookIfComplete]
  case gotStart => simp [exec, execFeedGotStart, runRow, hi, hs, execRxFeedByte, transition, hookIfComplete]
  case gotType =>
    by_cases hl : b.toNat ≤ s.cfg.maxLen <;>
      simp [exec, execFeedGotTypeAccept, execFeedGotTypeReject, runRow, hi, hs, lengthAccepted, hl, execRxFeedByte,
        transition, tGotTypeReject, hookIfComplete]
  case gotLength => simp [exec, execFeedGotLength, runRow, hi, hs, execRxFeedByte, transition, hookIfComplete]
  case gotChecksumHigh =>
    by_cases hz : s.rx.pktLen = 0#8 <;>
      simp [exec, execFeedGotChecksumHighZero, execFeedGotChecksumHighNonzero, runRow, hi, hs, noPayload, hz,
        execRxFeedByte, transition, hookIfComplete]
  case receivingPayload =>
    by_cases hl : s.rx.count + 1#8 = s.rx.pktLen
    · simp [exec, execFeedReceivingPayloadLast, runRow, hi, hs, isLastByte, hl, execRxFeedByte, transition,
        hookIfComplete_of_ne]
    · by_cases hc : s.rx.count.toNat < s.cfg.maxLen <;>
        simp [exec, execFeedReceivingPayloadMore, runRow, hi, hs, isLastByte, hl, execRxFeedByte, transition, tRpMore,
          storePayload, hc, hookIfComplete]
  case complete =>
    have hne : (tEmpty b (validate s)).rx.state ≠ .complete := tEmpty_rx_state_ne_complete (by simp)
    by_cases hl : s.rx.pktLen.toNat ≤ s.cfg.maxLen <;>
      simp [exec, execFeedComplete, runRow, hi, hs, execRxFeedByte, runHook, hl, transition, hookIfComplete, hne]
  case illegal7 => simp [exec, execFeedIllegal7, runRow, hi, hs, execRxFeedByte]

/-- A row that answers was selected, on an initialised receiver. -/
theorem row_selected_of_next {i : Instr} {b : Byte} {s t : State} (hm : i ∈ feedRows b)
    (h : exec i s = .next t) : s.rx.inited = true ∧ i = selectedRow b s := by
  simp only [feedRows, List.mem_cons, List.not_mem_nil, or_false] at hm
  rcases hm with rfl | rfl | rfl | rfl | rfl | rfl | rfl | rfl | rfl | rfl | rfl | rfl
  all_goals
    simp only [exec, execFeedEmptyStart, execFeedEmptyOther, execFeedGotStart, execFeedGotTypeAccept,
      execFeedGotTypeReject, execFeedGotLength, execFeedGotChecksumHighZero, execFeedGotChecksumHighNonzero,
      execFeedReceivingPayloadLast, execFeedReceivingPayloadMore, execFeedComplete, execFeedIllegal7] at h
    obtain ⟨hi, hsel, -⟩ := runRow_eq_next.mp h
    simp only [isMarker, lengthAccepted, noPayload, isLastByte, Bool.and_eq_true, Bool.not_eq_true', beq_iff_eq,
      beq_eq_false_iff_ne, decide_eq_true_eq, decide_eq_false_iff_not] at hsel
    simp [hi, selectedRow, decodeRow, stateCode, hsel]

/-! ### Every instruction -/

/-- The state after `RX_INIT` (R150). -/
def initialised (handler ctx : Nat) (s : State) : State :=
  { s with rx := { s.rx with
    inited := true, handler := some handler, ctx := ctx % 2 ^ s.cfg.ctxW, state := .empty, count := 0#8 } }

/-- The instruction answers the second state on the first, one case per kind of instruction: the reserved codes never
do, and the twelve rows do where they are selected, as the `RX_FEED_BYTE` they are part of. -/
inductive Completes : Instr → State → State → Prop
  | crcUpdate (b : Byte) (r : Word) (s : State) : Completes (.crcUpdate b r) s (emit (.crcOut (crcUpdate b r)) s)
  | serialize (x : Byte) (p : List Byte) (s : State) :
      Completes (.serialize x p) s (emit (.serialized (serialize s.cfg x p)) s)
  | rxInit (h ctx : Nat) (s : State) : Completes (.rxInit h ctx) s (initialised h ctx s)
  | rxReset {s : State} (hi : s.rx.inited = true) : Completes .rxReset s (resetToEmpty s)
  | rxFeedByte (b : Byte) {s : State} (hr : FeedRuns s) : Completes (.rxFeedByte b) s (feedNext b s)
  | row (b : Byte) {s : State} (hr : FeedRuns s) : Completes (selectedRow b s) s (feedNext b s)
  | completeHook {s : State} (hi : s.rx.inited = true) (hs : s.rx.state = .complete)
      (hl : s.rx.pktLen.toNat ≤ s.cfg.maxLen) : Completes .completeHook s (validate s)
  | frameHeader {m x l lo hi : Byte} {s t : State} (hf : rxFeed [m, x, l, lo, hi] s = .next t) :
      Completes (.frameHeader m x l lo hi) s t

theorem completes_of_row {i : Instr} {b : Byte} {s t : State} (hm : i ∈ feedRows b) (h : exec i s = .next t) :
    Completes i s t := by
  obtain ⟨hi, rfl⟩ := row_selected_of_next hm h
  rw [exec_selectedRow b hi] at h
  obtain ⟨hr, rfl⟩ := execRxFeedByte_eq_next.mp h
  exact .row b hr

theorem completes_of_exec {i : Instr} {s t : State} (h : exec i s = .next t) : Completes i s t := by
  cases i with
  | crcUpdate b r => cases h; exact .crcUpdate b r s
  | serialize x p => cases h; exact .serialize x p s
  | rxInit hd ctx => cases h; exact .rxInit hd ctx s
  | rxReset =>
    simp only [exec, execRxReset] at h
    split at h
    next hi => cases h; exact .rxReset hi
    next => cases h
  | rxFeedByte b =>
    obtain ⟨hr, rfl⟩ := execRxFeedByte_eq_next.mp h
    exact .rxFeedByte b hr
  | reservedOp5 | reservedOp6 | reservedOp7 => cases h
  | feedEmptyStart b | feedEmptyOther b | feedGotStart b | feedGotTypeAccept b | feedGotTypeReject b
  | feedGotLength b | feedGotChecksumHighZero b | feedGotChecksumHighNonzero b | feedReceivingPayloadLast b
  | feedReceivingPayloadMore b | feedComplete b | feedIllegal7 b =>
    exact completes_of_row (b := b) (by simp [feedRows]) h
  | completeHook =>
    obtain ⟨hi, hs, hrun⟩ := runRow_eq_next.mp h
    obtain ⟨hl, rfl⟩ := runHook_eq_next.mp hrun
    exact .completeHook hi (beq_iff_eq.mp hs) hl
  | frameHeader m x l lo hi => exact .frameHeader h

theorem exec_of_completes {i : Instr} {s t : State} (h : Completes i s t) : exec i s = .next t := by
  cases h with
  | crcUpdate | serialize | rxInit => rfl
  | rxReset hi => simp [exec, execRxReset, hi]
  | rxFeedByte b hr => exact execRxFeedByte_of_feedRuns hr
  | row b hr => rw [exec_selectedRow b hr.inited, execRxFeedByte_of_feedRuns hr]
  | completeHook hi hs hl =>
    exact runRow_eq_next.mpr ⟨hi, beq_iff_eq.mpr hs, runHook_of_le hl⟩
  | frameHeader hf => exact hf

/-- What an instruction can do, in every state. -/
theorem exec_eq_next {i : Instr} {s t : State} : exec i s = .next t ↔ Completes i s t :=
  ⟨completes_of_exec, exec_of_completes⟩

/-- A request that is answered was decoded and run (R8). -/
theorem exec_of_issue {r : Request} {s t : State} (h : issue r s = .next t) :
    ∃ i, decode s.cfg r = .ok i ∧ exec i s = .next t := by
  cases hd : decode s.cfg r with
  | error e => simp [issue_of_decode_error hd] at h
  | ok i =>
    simp only [issue, hd] at h
    split at h
    · cases h
    · exact ⟨i, rfl, h⟩

/-- What a step can do: nothing, with no operation issued, or one instruction with its request taken off the list. -/
theorem step_eq_next {s t : State} (h : step s = .next t) :
    t = s ∨ ∃ (i : Instr) (rest : List Request), exec i { s with pending := rest } = .next t := by
  cases hp : s.pending with
  | nil =>
    rw [step_of_pending_nil hp] at h
    cases h
    exact .inl rfl
  | cons r rest =>
    rw [step_of_pending_cons hp] at h
    obtain ⟨i, -, hex⟩ := exec_of_issue h
    exact .inr ⟨i, rest, hex⟩

end Sys2Proof.Machine
end

section
/-! PROOFS. O46: what every instruction leaves alone (R28, R29, R30, R39). -/

namespace Sys2Proof.Machine

/-- The parameters, the host's list, the handler, the context and `inited` are as before. -/
structure KeepsBindings (s t : State) : Prop where
  cfg : t.cfg = s.cfg
  pending : t.pending = s.pending
  handler : t.rx.handler = s.rx.handler
  ctx : t.rx.ctx = s.rx.ctx
  inited : t.rx.inited = s.rx.inited

namespace KeepsBindings

theorem refl (s : State) : KeepsBindings s s := ⟨rfl, rfl, rfl, rfl, rfl⟩

theorem trans {s u t : State} (h : KeepsBindings s u) (h' : KeepsBindings u t) : KeepsBindings s t where
  cfg := h'.cfg.trans h.cfg
  pending := h'.pending.trans h.pending
  handler := h'.handler.trans h.handler
  ctx := h'.ctx.trans h.ctx
  inited := h'.inited.trans h.inited

theorem emit (e : Event) (s : State) : KeepsBindings s (emit e s) := ⟨rfl, rfl, rfl, rfl, rfl⟩

theorem resetToEmpty (s : State) : KeepsBindings s (resetToEmpty s) := ⟨rfl, rfl, rfl, rfl, rfl⟩

theorem validate (s : State) : KeepsBindings s (validate s) := by constructor <;> simp

theorem tEmpty (b : Byte) (s : State) : KeepsBindings s (tEmpty b s) := by
  unfold Machine.tEmpty
  split <;> exact ⟨rfl, rfl, rfl, rfl, rfl⟩

theorem feedNext (b : Byte) (s : State) : KeepsBindings s (feedNext b s) := by
  cases hs : s.rx.state <;> simp only [Machine.feedNext, hs]
  case empty => exact tEmpty b s
  case gotStart | gotLength => exact ⟨rfl, rfl, rfl, rfl, rfl⟩
  case gotType => split <;> exact ⟨rfl, rfl, rfl, rfl, rfl⟩
  case gotChecksumHigh =>
    split
    · exact .trans (u := tGchZero b s) ⟨rfl, rfl, rfl, rfl, rfl⟩ (validate _)
    · exact ⟨rfl, rfl, rfl, rfl, rfl⟩
  case receivingPayload =>
    split
    · exact .trans (u := setRxState .complete (appendByte b s)) ⟨rfl, rfl, rfl, rfl, rfl⟩ (validate _)
    · exact ⟨rfl, rfl, rfl, rfl, rfl⟩
  case complete => exact (validate s).trans (tEmpty b _)
  case illegal7 => exact refl s

theorem rxFeed {bs : List Byte} {s t : State} (h : rxFeed bs s = .next t) : KeepsBindings s t := by
  induction bs generalizing s with
  | nil => cases h; exact refl _
  | cons b bs ih =>
    obtain ⟨-, ht⟩ := rxFeed_cons_eq_next.mp h
    exact (feedNext b s).trans (ih ht)

end KeepsBindings

/-- Every instruction but `RX_INIT`. -/
theorem exec_keepsBindings {i : Instr} {s t : State} (h : exec i s = .next t) (hne : ∀ hd ctx, i ≠ .rxInit hd ctx) :
    KeepsBindings s t := by
  cases exec_eq_next.mp h with
  | crcUpdate | serialize => exact .emit _ _
  | rxInit hd ctx => exact absurd rfl (hne hd ctx)
  | rxReset => exact .resetToEmpty _
  | rxFeedByte b | row b => exact .feedNext b _
  | completeHook => exact .validate _
  | frameHeader hf => exact .rxFeed hf

end Sys2Proof.Machine

open Sys2Proof Sys2Proof.Machine

/-- Settles O46: `RX_INIT` writes neither the parameters nor the host's list, and every other instruction keeps all
five. -/
theorem onlyInitBindsHandlerAndContext : Obligations.OnlyInitBindsHandlerAndContext := by
  intro i s t h
  by_cases hinit : ∃ hd ctx, i = .rxInit hd ctx
  · obtain ⟨hd, ctx, rfl⟩ := hinit
    cases h
    exact ⟨rfl, rfl, fun hne => absurd rfl (hne hd ctx)⟩
  · obtain ⟨hcfg, hpending, hhandler, hctx, hinited⟩ :=
      exec_keepsBindings h fun hd ctx e => hinit ⟨hd, ctx, e⟩
    exact ⟨hcfg, hpending, fun _ => ⟨hhandler, hctx, hinited⟩⟩

end

section
/-! PROOFS. O52: several receivers side by side (R38, R222). -/

namespace Sys2Proof.Machine

/-- What an operation on element `k` of the list can do: it is there, and it alone is replaced. -/
theorem execOn_eq_next {k : Nat} {i : Instr} {links after : Links} :
    Links.execOn k i links = .next after ↔
      ∃ s t, links[k]? = some s ∧ exec i s = .next t ∧ after = links.set k t := by
  unfold Links.execOn
  cases links[k]? with
  | none => simp
  | some s => cases hex : exec i s <;> simp [hex, eq_comm]

end Sys2Proof.Machine

open Sys2Proof Sys2Proof.Machine

/-- Settles O52: the operation reads element `k` of the list only, and sets it only. -/
theorem instancesAreIndependent : Obligations.InstancesAreIndependent := by
  intro k i links links' after h
  obtain ⟨s, t, hk, hex, rfl⟩ := execOn_eq_next.mp h
  refine ⟨fun j hj => List.getElem?_set_ne hj.symm, fun hsame => ?_⟩
  have hk' : links'[k]? = some s := hsame.trans hk
  refine ⟨links'.set k t, execOn_eq_next.mpr ⟨s, t, hk', hex, rfl⟩, ?_⟩
  obtain ⟨hlt, -⟩ := List.getElem?_eq_some_iff.mp hk
  obtain ⟨hlt', -⟩ := List.getElem?_eq_some_iff.mp hk'
  rw [List.getElem?_set_self hlt, List.getElem?_set_self hlt']

end

section
/-! PROOFS. O42 and O43: the invariants hold at reset and every step keeps them (R34). -/

namespace Sys2Proof.Machine

/-- The clauses of `GoodState` that do not speak of the frame in progress. -/
structure FrameFreeGood (s : State) : Prop where
  bufferCanonical : s.rx.payload.wf
  bufferBounded : ∀ cell ∈ s.rx.payload, cell.1 < s.cfg.maxLen
  ctxFits : s.rx.ctx < 2 ^ s.cfg.ctxW
  handlerBound : s.rx.inited = true → s.rx.handler.isSome

theorem GoodState.frameFree {s : State} (hg : GoodState s) : FrameFreeGood s := { hg with }

namespace FrameFreeGood

/-- Between frames nothing more is asked than `count = 0` (R34 (I-d)). -/
theorem good_of_empty {s : State} (hf : FrameFreeGood s) (hs : s.rx.state = .empty) (hc : s.rx.count = 0#8) :
    GoodState s :=
  { hf with
    resting := by simp [hs]
    lenFits := by simp [hs]
    countBelowLen := by simp [hs]
    countZero := fun _ _ => hc
    startIsMarker := fun _ hne => absurd hs hne
    storedBelowCount := by simp [hs] }

theorem good_resetToEmpty {s : State} (hf : FrameFreeGood s) : GoodState (resetToEmpty s) :=
  good_of_empty { hf with } rfl rfl

theorem good_validate {s : State} (hf : FrameFreeGood s) : GoodState (validate s) := by
  unfold validate
  split <;> exact good_resetToEmpty { hf with }

theorem appendByte {s : State} (b : Byte) (hf : FrameFreeGood s) (hc : s.rx.count.toNat < s.cfg.maxLen) :
    FrameFreeGood (appendByte b s) :=
  { hf with
    bufferCanonical := Memory.wf_write _ b hf.bufferCanonical
    bufferBounded := fun cell hcell => by
      rcases Memory.mem_write _ _ b hcell with rfl | hold
      · exact hc
      · exact hf.bufferBounded cell hold }

end FrameFreeGood

namespace GoodState
variable {s : State}

/-- The invariants do not speak of the host's list or of the trace. -/
theorem withPending (hg : GoodState s) (rest : List Request) : GoodState { s with pending := rest } := { hg with }

theorem emit (hg : GoodState s) (e : Event) : GoodState (emit e s) := { hg with }

theorem initialised (hg : GoodState s) (hd ctx : Nat) : GoodState (initialised hd ctx s) :=
  FrameFreeGood.good_of_empty
    { hg with
      ctxFits := Nat.mod_lt ctx (by positivity)
      handlerBound := fun _ => rfl } rfl rfl

/-- While receiving payload, `count` is an index of the buffer (R34 (I-b), (I-c)). -/
theorem count_lt_maxLen (hg : GoodState s) (hi : s.rx.inited = true) (hs : s.rx.state = .receivingPayload) :
    s.rx.count.toNat < s.cfg.maxLen :=
  (hg.countBelowLen hi hs).trans_le (hg.lenFits hi (.inr (.inr hs)))

/-- From a good state `RX_FEED_BYTE` always answers. -/
theorem feedRuns (hg : GoodState s) (hi : s.rx.inited = true) : FeedRuns s where
  inited := hi
  legal := (hg.resting hi).2
  storeFits := hg.count_lt_maxLen hi
  packetFits := fun hs => absurd hs (hg.resting hi).1

/-- `count + 1` as a number, which is at most `pkt.len`: no wrap. -/
theorem count_succ_toNat (hg : GoodState s) (hi : s.rx.inited = true) (hs : s.rx.state = .receivingPayload) :
    (s.rx.count + 1#8).toNat = s.rx.count.toNat + 1 :=
  toNat_succ_of_lt (hg.count_lt_maxLen hi hs) s.cfg.maxPayloadSize.isLt

/-! The invariants across each transition (R154 to R163). -/

theorem tEmpty {b : Byte} (hg : GoodState s) (hs : s.rx.state = .empty) : GoodState (tEmpty b s) := by
  unfold Machine.tEmpty
  split
  next hm =>
    exact
      { hg with
        resting := by simp
        lenFits := by simp
        countBelowLen := by simp
        countZero := fun hi _ => hg.countZero hi (by simp [hs])
        startIsMarker := fun _ _ => beq_iff_eq.mp hm
        storedBelowCount := by simp }
  next => exact hg

theorem tGotStart {b : Byte} (hg : GoodState s) (hs : s.rx.state = .gotStart) : GoodState (tGotStart b s) :=
  { hg with
    resting := by simp
    lenFits := by simp
    countBelowLen := by simp
    countZero := fun hi _ => hg.countZero hi (by simp [hs])
    startIsMarker := fun hi _ => hg.startIsMarker hi (by simp [hs])
    storedBelowCount := by simp }

theorem tGotTypeAccept {b : Byte} (hg : GoodState s) (hs : s.rx.state = .gotType) (hl : lengthAccepted b s = true) :
    GoodState (tGotTypeAccept b s) :=
  { hg with
    resting := by simp
    lenFits := fun _ _ => of_decide_eq_true hl
    countBelowLen := by simp
    countZero := fun hi _ => hg.countZero hi (by simp [hs])
    startIsMarker := fun hi _ => hg.startIsMarker hi (by simp [hs])
    storedBelowCount := by simp }

theorem tGotLength {b : Byte} (hg : GoodState s) (hs : s.rx.state = .gotLength) : GoodState (tGotLength b s) :=
  { hg with
    resting := by simp
    lenFits := fun hi _ => hg.lenFits hi (.inl hs)
    countBelowLen := by simp
    countZero := fun hi _ => hg.countZero hi (by simp [hs])
    startIsMarker := fun hi _ => hg.startIsMarker hi (by simp [hs])
    storedBelowCount := by simp }

/-- The payload awaited has at least one byte, and none of it is stored. -/
theorem tGchNonzero {b : Byte} (hg : GoodState s) (hs : s.rx.state = .gotChecksumHigh) (hz : ¬ noPayload s = true) :
    GoodState (tGchNonzero b s) := by
  have hcount (hi : s.rx.inited = true) : s.rx.count = 0#8 := hg.countZero hi (by simp [hs])
  have hlen : 0 < s.rx.pktLen.toNat := by
    rw [noPayload_iff] at hz
    exact Nat.pos_of_ne_zero fun h0 => hz (BitVec.eq_of_toNat_eq h0)
  exact
    { hg with
      resting := by simp
      lenFits := fun hi _ => hg.lenFits hi (.inr (.inl hs))
      countBelowLen := fun hi _ => by simpa [hcount hi] using hlen
      countZero := by simp
      startIsMarker := fun hi _ => hg.startIsMarker hi (by simp [hs])
      storedBelowCount := fun hi _ => by simp [hcount hi] }

/-- A byte that is not the last leaves `count` below `pkt.len`, and is itself stored. -/
theorem appendByte {b : Byte} (hg : GoodState s) (hi : s.rx.inited = true) (hs : s.rx.state = .receivingPayload)
    (hl : ¬ isLastByte s = true) : GoodState (appendByte b s) := by
  have hsucc := hg.count_succ_toNat hi hs
  have hbelow : (s.rx.count + 1#8).toNat < s.rx.pktLen.toNat := by
    have hne : (s.rx.count + 1#8).toNat ≠ s.rx.pktLen.toNat :=
      fun h => hl (isLastByte_iff.mpr (BitVec.eq_of_toNat_eq h))
    have := hg.countBelowLen hi hs
    omega
  exact
    { hg.frameFree.appendByte b (hg.count_lt_maxLen hi hs) with
      resting := hg.resting
      lenFits := hg.lenFits
      countBelowLen := fun _ _ => hbelow
      countZero := fun _ hne => absurd hs hne
      startIsMarker := hg.startIsMarker
      storedBelowCount := fun _ _ i hlt => by
        rw [appendByte_rx_count, hsucc] at hlt
        rw [appendByte_rx_payload, Memory.read_write]
        split
        next => rfl
        next hne => exact hg.storedBelowCount hi hs i (by omega) }

theorem feedNext {b : Byte} (hg : GoodState s) (hi : s.rx.inited = true) : GoodState (feedNext b s) := by
  cases hs : s.rx.state <;> simp only [Machine.feedNext, hs]
  case empty => exact hg.tEmpty hs
  case gotStart => exact hg.tGotStart hs
  case gotType =>
    split
    next hl => exact hg.tGotTypeAccept hs hl
    next => exact (hg.emit _).frameFree.good_resetToEmpty
  case gotLength => exact hg.tGotLength hs
  case gotChecksumHigh =>
    split
    next => exact FrameFreeGood.good_validate { hg with }
    next hz => exact hg.tGchNonzero hs hz
  case receivingPayload =>
    split
    next => exact FrameFreeGood.good_validate { hg.frameFree.appendByte b (hg.count_lt_maxLen hi hs) with }
    next hl => exact hg.appendByte hi hs hl
  case complete => exact absurd hs (hg.resting hi).1
  case illegal7 => exact hg

theorem rxFeed {bs : List Byte} {t : State} (hg : GoodState s) (h : rxFeed bs s = .next t) : GoodState t := by
  induction bs generalizing s with
  | nil => cases h; exact hg
  | cons b bs ih =>
    obtain ⟨hr, ht⟩ := rxFeed_cons_eq_next.mp h
    exact ih (hg.feedNext hr.inited) ht

/-- Every instruction keeps the invariants. -/
theorem exec {i : Instr} {t : State} (hg : GoodState s) (h : exec i s = .next t) : GoodState t := by
  cases exec_eq_next.mp h with
  | crcUpdate | serialize => exact hg.emit _
  | rxInit hd ctx => exact hg.initialised hd ctx
  | rxReset => exact hg.frameFree.good_resetToEmpty
  | rxFeedByte b hr | row b hr => exact hg.feedNext hr.inited
  | completeHook => exact hg.frameFree.good_validate
  | frameHeader hf => exact hg.rxFeed hf

/-- The reset receiver is at rest, with an empty buffer. -/
theorem reset : GoodState State.reset :=
  FrameFreeGood.good_of_empty
    { bufferCanonical := Memory.wf_nil
      bufferBounded := fun _ h => absurd h List.not_mem_nil
      ctxFits := Nat.pow_pos Nat.two_pos
      handlerBound := fun h => absurd h Bool.false_ne_true } rfl rfl

end GoodState

end Sys2Proof.Machine

open Sys2Proof Sys2Proof.Machine

/-- Settles O43: the reset state has nothing in progress, nothing stored and nothing bound. -/
theorem resetStateIsUninitialised : Obligations.ResetStateIsUninitialised :=
  ⟨rfl, rfl, GoodState.reset⟩

/-- Settles O42: a step changes nothing or is one instruction, and every instruction keeps the invariants. -/
theorem everyStepKeepsTheInvariants : Obligations.EveryStepKeepsTheInvariants := by
  intro s t hg h
  obtain rfl | ⟨i, rest, hex⟩ := step_eq_next h
  · exact hg
  · exact (hg.withPending rest).exec hex

end

section
/-! PROOFS. O50: stale header fields and stale payload bytes are never shown (R35, R27). -/

namespace Sys2Proof.Machine

/-! ### What validation shows -/

/-- The event of the validation of a packet, which depends on the packet and the handler alone (R165). -/
def packetEvent (handler : Option Nat) (d : Dispatch) : Event :=
  if packetChecksum d.ptype d.len d.payload = d.crc then .dispatch handler d else .drop .checksumMismatch

theorem validate_trace_eq_packetEvent (s : State) :
    (validate s).trace = s.trace ++ [packetEvent s.rx.handler (packetHeld s)] := validate_trace s

theorem packetHeld_congr {s t : State} (hstart : t.rx.pktStart = s.rx.pktStart) (htype : t.rx.pktType = s.rx.pktType)
    (hlen : t.rx.pktLen = s.rx.pktLen) (hcrc : t.rx.pktCrc = s.rx.pktCrc) (hctx : t.rx.ctx = s.rx.ctx)
    (hread : ∀ i < s.rx.pktLen.toNat, t.rx.payload.read i = s.rx.payload.read i) : packetHeld t = packetHeld s := by
  simp only [packetHeld, hstart, htype, hlen, hcrc, hctx, payloadBytes_congr hread]

/-! ### Answering alike -/

/-- From `s` to `t` and from `s'` to `t'` the same events were emitted, and the states reached differ only in what is
stale. -/
structure AnswersAlike (s s' t t' : State) : Prop where
  stale : SameButStale t t'
  events : ∃ events, t.trace = s.trace ++ events ∧ t'.trace = s'.trace ++ events

theorem AnswersAlike.trans {s s' u u' t t' : State} (h : AnswersAlike s s' u u') (h' : AnswersAlike u u' t t') :
    AnswersAlike s s' t t' := by
  obtain ⟨-, first, hu, hu'⟩ := h
  obtain ⟨hstale, second, ht, ht'⟩ := h'
  exact ⟨hstale, first ++ second, by rw [ht, hu, List.append_assoc], by rw [ht', hu', List.append_assoc]⟩

/-- An operation that emits nothing. -/
theorem SameButStale.silent {s s' t t' : State} (h : SameButStale t t') (ht : t.trace = s.trace)
    (ht' : t'.trace = s'.trace) : AnswersAlike s s' t t' := ⟨h, [], by simp [ht], by simp [ht']⟩

/-- A branch that both sides take alike. -/
theorem AnswersAlike.ite {s s' t t' u u' : State} {c c' : Bool} (hc : c' = c)
    (hpos : c = true → AnswersAlike s s' t t') (hneg : ¬ c = true → AnswersAlike s s' u u') :
    AnswersAlike s s' (if c then t else u) (if c' then t' else u') := by
  subst hc
  split
  next h => exact hpos h
  next h => exact hneg h

/-- Two states agree in the parameters and the bindings. -/
structure SameBindings (s t : State) : Prop where
  cfg : t.cfg = s.cfg
  inited : t.rx.inited = s.rx.inited
  handler : t.rx.handler = s.rx.handler
  ctx : t.rx.ctx = s.rx.ctx

namespace SameBindings
variable {s s' : State}

/-- Between frames the whole packet is stale. -/
theorem sameButStale_of_empty (h : SameBindings s s') (hs : s.rx.state = .empty) (hs' : s'.rx.state = .empty)
    (hc : s'.rx.count = s.rx.count) : SameButStale s s' :=
  { h with
    state := hs'.trans hs.symm
    count := hc
    start := fun hne => absurd hs hne
    ptype := fun hne => absurd hs hne
    len := by simp [hs]
    crcLow := by simp [hs]
    crc := by simp [hs]
    stored := by simp [hs] }

theorem resetToEmpty (h : SameBindings s s') : SameButStale (resetToEmpty s) (resetToEmpty s') :=
  sameButStale_of_empty { h with } rfl rfl rfl

theorem dropAttempt (h : SameBindings s s') (e : ErrorCode) :
    AnswersAlike s s' (dropAttempt e s) (dropAttempt e s') :=
  ⟨resetToEmpty { h with }, [.drop e], rfl, rfl⟩

theorem validate (h : SameBindings s s') (hp : packetHeld s' = packetHeld s) :
    AnswersAlike s s' (validate s) (validate s') where
  stale :=
    sameButStale_of_empty (by constructor <;> simp [h.cfg, h.inited, h.handler, h.ctx]) (by simp) (by simp) (by simp)
  events := ⟨_, validate_trace_eq_packetEvent s, by rw [validate_trace_eq_packetEvent, hp, h.handler]⟩

end SameBindings

/-! ### Each transition answers alike (R154 to R163) -/

namespace SameButStale
variable {s s' : State}

theorem sameBindings (h : SameButStale s s') : SameBindings s s' := { h with }

theorem emit (h : SameButStale s s') (e : Event) : AnswersAlike s s' (emit e s) (emit e s') :=
  ⟨{ h with }, [e], rfl, rfl⟩

theorem initialised (h : SameButStale s s') (hd ctx : Nat) :
    SameButStale (initialised hd ctx s) (initialised hd ctx s') :=
  SameBindings.sameButStale_of_empty
    { cfg := h.cfg
      inited := rfl
      handler := rfl
      ctx := congrArg (fun c : Config => ctx % 2 ^ c.ctxW) h.cfg } rfl rfl rfl

theorem tEmptyStart (h : SameButStale s s') (b : Byte) : SameButStale (tEmptyStart b s) (tEmptyStart b s') :=
  { h with
    state := rfl
    start := fun _ => rfl
    ptype := by simp
    len := by simp
    crcLow := by simp
    crc := by simp
    stored := by simp }

theorem tEmpty (h : SameButStale s s') (b : Byte) : AnswersAlike s s' (tEmpty b s) (tEmpty b s') := by
  have hmarker : isMarker b s' = isMarker b s := by simp only [isMarker, h.cfg]
  exact .ite hmarker (fun _ => (h.tEmptyStart b).silent rfl rfl) fun _ => h.silent rfl rfl

theorem tGotStart (h : SameButStale s s') (b : Byte) (hs : s.rx.state = .gotStart) :
    SameButStale (tGotStart b s) (tGotStart b s') :=
  { h with
    state := rfl
    start := fun _ => h.start (by simp [hs])
    ptype := fun _ _ => rfl
    len := by simp
    crcLow := by simp
    crc := by simp
    stored := by simp }

theorem tGotTypeAccept (h : SameButStale s s') (b : Byte) (hs : s.rx.state = .gotType) :
    SameButStale (tGotTypeAccept b s) (tGotTypeAccept b s') :=
  { h with
    state := rfl
    start := fun _ => h.start (by simp [hs])
    ptype := fun _ _ => h.ptype (by simp [hs]) (by simp [hs])
    len := fun _ => rfl
    crcLow := by simp
    crc := by simp
    stored := by simp }

/-- The half of `pkt.crc` that is not yet received may differ; the half just received does not. -/
theorem tGotLength (h : SameButStale s s') (b : Byte) (hs : s.rx.state = .gotLength) :
    SameButStale (tGotLength b s) (tGotLength b s') :=
  { h with
    state := rfl
    start := fun _ => h.start (by simp [hs])
    ptype := fun _ _ => h.ptype (by simp [hs]) (by simp [hs])
    len := fun _ => h.len (.inl hs)
    crcLow := fun _ => by simp [withLow8]
    crc := by simp
    stored := by simp }

/-- The high byte replaces the half that was stale. -/
theorem withHigh8_eq (h : SameButStale s s') (b : Byte) (hs : s.rx.state = .gotChecksumHigh) :
    withHigh8 s'.rx.pktCrc b = withHigh8 s.rx.pktCrc b := by
  simp only [withHigh8, h.crcLow hs]

theorem validate_tGchZero (h : SameButStale s s') (b : Byte) (hs : s.rx.state = .gotChecksumHigh)
    (hz : s.rx.pktLen = 0#8) : AnswersAlike s s' (validate (tGchZero b s)) (validate (tGchZero b s')) := by
  have hp : packetHeld (tGchZero b s') = packetHeld (tGchZero b s) :=
    packetHeld_congr (h.start (by simp [hs])) (h.ptype (by simp [hs]) (by simp [hs])) (h.len (.inr (.inl hs)))
      (h.withHigh8_eq b hs) h.ctx (by simp [hz])
  have hb : SameBindings (tGchZero b s) (tGchZero b s') := { h with }
  exact ⟨(hb.validate hp).stale, (hb.validate hp).events⟩

theorem tGchNonzero (h : SameButStale s s') (b : Byte) (hs : s.rx.state = .gotChecksumHigh)
    (hc : s.rx.count = 0#8) : SameButStale (tGchNonzero b s) (tGchNonzero b s') :=
  { h with
    state := rfl
    start := fun _ => h.start (by simp [hs])
    ptype := fun _ _ => h.ptype (by simp [hs]) (by simp [hs])
    len := fun _ => h.len (.inr (.inl hs))
    crcLow := by simp
    crc := fun _ => h.withHigh8_eq b hs
    stored := by simp [hc] }

/-- With the byte appended, the buffers agree below the new `count`. -/
theorem appendByte_read (h : SameButStale s s') (b : Byte) (hs : s.rx.state = .receivingPayload) {i : Nat}
    (hlt : i < s.rx.count.toNat + 1) :
    (appendByte b s').rx.payload.read i = (appendByte b s).rx.payload.read i := by
  simp only [appendByte_rx_payload, Memory.read_write, h.count]
  split
  · rfl
  · exact h.stored hs i (by omega)

theorem appendByte (h : SameButStale s s') (b : Byte) (hs : s.rx.state = .receivingPayload)
    (hsucc : (s.rx.count + 1#8).toNat = s.rx.count.toNat + 1) :
    SameButStale (appendByte b s) (appendByte b s') :=
  { h with
    count := congrArg (· + 1#8) h.count
    stored := fun _ _ hlt => h.appendByte_read b hs (by rwa [← hsucc]) }

theorem validate_appendByte (h : SameButStale s s') (b : Byte) (hs : s.rx.state = .receivingPayload)
    (hlen : s.rx.pktLen.toNat = s.rx.count.toNat + 1) :
    AnswersAlike s s' (validate (setRxState .complete (Machine.appendByte b s)))
      (validate (setRxState .complete (Machine.appendByte b s'))) := by
  have hp : packetHeld (setRxState .complete (Machine.appendByte b s')) =
      packetHeld (setRxState .complete (Machine.appendByte b s)) :=
    packetHeld_congr (h.start (by simp [hs])) (h.ptype (by simp [hs]) (by simp [hs])) (h.len (.inr (.inr hs)))
      (h.crc hs) h.ctx fun i hlt => h.appendByte_read b hs (by rwa [← hlen])
  have hb : SameBindings (setRxState .complete (Machine.appendByte b s))
      (setRxState .complete (Machine.appendByte b s')) := { h with }
  exact ⟨(hb.validate hp).stale, (hb.validate hp).events⟩

/-! ### Every instruction answers alike -/

theorem feedNext (h : SameButStale s s') (b : Byte) (hg : GoodState s) (hi : s.rx.inited = true) :
    AnswersAlike s s' (feedNext b s) (feedNext b s') := by
  cases hs : s.rx.state <;> simp only [Machine.feedNext, h.state, hs]
  case empty => exact h.tEmpty b
  case gotStart => exact (h.tGotStart b hs).silent rfl rfl
  case gotType =>
    have haccepted : lengthAccepted b s' = lengthAccepted b s := by simp only [lengthAccepted, h.cfg]
    exact .ite haccepted (fun _ => (h.tGotTypeAccept b hs).silent rfl rfl)
      fun _ => h.sameBindings.dropAttempt .invalidLengthField
  case gotLength => exact (h.tGotLength b hs).silent rfl rfl
  case gotChecksumHigh =>
    have hempty : noPayload s' = noPayload s := by simp only [noPayload, h.len (.inr (.inl hs))]
    exact .ite hempty (fun hz => h.validate_tGchZero b hs (noPayload_iff.mp hz))
      fun _ => (h.tGchNonzero b hs (hg.countZero hi (by simp [hs]))).silent rfl rfl
  case receivingPayload =>
    have hlast : isLastByte s' = isLastByte s := by simp only [isLastByte, h.count, h.len (.inr (.inr hs))]
    have hsucc := hg.count_succ_toNat hi hs
    exact .ite hlast (fun hl => h.validate_appendByte b hs (by rw [← isLastByte_iff.mp hl, hsucc]))
      fun _ => (h.appendByte b hs hsucc).silent rfl rfl
  case complete => exact absurd hs (hg.resting hi).1
  case illegal7 => exact h.silent rfl rfl

/-- The decode table looks at nothing stale (R93). -/
theorem selectedRow_eq (h : SameButStale s s') (b : Byte) : selectedRow b s' = selectedRow b s := by
  unfold selectedRow
  cases hs : s.rx.state with
  | gotChecksumHigh => simp only [h.cfg, h.state, hs, h.len (.inr (.inl hs)), h.count]
  | receivingPayload => simp only [h.cfg, h.state, hs, h.len (.inr (.inr hs)), h.count]
  | empty | gotStart | gotType | gotLength | complete | illegal7 => simp [h.cfg, h.state, hs, decodeRow, stateCode]

theorem rxFeed {bs : List Byte} {t : State} (h : SameButStale s s') (hg : GoodState s) (hg' : GoodState s')
    (hf : rxFeed bs s = .next t) : ∃ t', rxFeed bs s' = .next t' ∧ AnswersAlike s s' t t' := by
  induction bs generalizing s s' with
  | nil => cases hf; exact ⟨s', rfl, h.silent rfl rfl⟩
  | cons b bs ih =>
    obtain ⟨hr, ht⟩ := rxFeed_cons_eq_next.mp hf
    have hi' : s'.rx.inited = true := h.inited.trans hr.inited
    have hfirst := h.feedNext b hg hr.inited
    obtain ⟨t', ht', hrest⟩ := ih hfirst.stale (hg.feedNext hr.inited) (hg'.feedNext hi') ht
    exact ⟨t', rxFeed_cons_eq_next.mpr ⟨hg'.feedRuns hi', ht'⟩, hfirst.trans hrest⟩

theorem completes {i : Instr} {t : State} (h : SameButStale s s') (hg : GoodState s) (hg' : GoodState s')
    (hc : Completes i s t) : ∃ t', Completes i s' t' ∧ AnswersAlike s s' t t' := by
  cases hc with
  | crcUpdate b r => exact ⟨_, .crcUpdate b r s', h.emit _⟩
  | serialize x p => exact ⟨_, .serialize x p s', h.cfg ▸ h.emit _⟩
  | rxInit hd ctx => exact ⟨_, .rxInit hd ctx s', (h.initialised hd ctx).silent rfl rfl⟩
  | rxReset hi => exact ⟨_, .rxReset (h.inited.trans hi), h.sameBindings.resetToEmpty.silent rfl rfl⟩
  | rxFeedByte b hr =>
    exact ⟨_, .rxFeedByte b (hg'.feedRuns (h.inited.trans hr.inited)), h.feedNext b hg hr.inited⟩
  | row b hr =>
    rw [← h.selectedRow_eq b]
    exact ⟨_, .row b (hg'.feedRuns (h.inited.trans hr.inited)), h.feedNext b hg hr.inited⟩
  | completeHook hi hs => exact absurd hs (hg.resting hi).1
  | frameHeader hf =>
    obtain ⟨t', hf', halike⟩ := h.rxFeed hg hg' hf
    exact ⟨t', .frameHeader hf', halike⟩

end SameButStale

end Sys2Proof.Machine

open Sys2Proof Sys2Proof.Machine

/-- Settles O50: `SameButStale` is a simulation; each instruction completes on both states, with the same events. -/
theorem staleStateIsNeverExposed : Obligations.StaleStateIsNeverExposed := by
  intro i s s' t hg hg' h hex
  obtain ⟨t', hc', hstale, events, ht, ht'⟩ := h.completes hg hg' (exec_eq_next.mp hex)
  exact ⟨t', events, exec_eq_next.mpr hc', hstale, ht, ht'⟩

end

section
/-! PROOFS. O31: a sequence of bytes is fed alike however it is cut (R62, R168). -/

namespace Sys2Proof.Machine

theorem andThen_assoc (o : Result) (f g : State → Result) :
    andThen (andThen o f) g = andThen o fun s => andThen (f s) g := by
  cases o <;> rfl

/-- Feeding two sequences one after the other is feeding them joined, stops included. -/
theorem rxFeed_append (xs ys : List Byte) (s : State) : rxFeed (xs ++ ys) s = andThen (rxFeed xs s) (rxFeed ys) := by
  induction xs generalizing s with
  | nil => rfl
  | cons x xs ih =>
    calc rxFeed (x :: xs ++ ys) s
      _ = andThen (execRxFeedByte x s) (rxFeed (xs ++ ys)) := rfl
      _ = andThen (execRxFeedByte x s) fun u => andThen (rxFeed xs u) (rxFeed ys) := by rw [funext ih]
      _ = andThen (rxFeed (x :: xs) s) (rxFeed ys) := (andThen_assoc _ _ _).symm

/-- Feeding chunks after any outcome: the outcome so far is the generalisation the induction needs. -/
theorem foldl_rxFeed (chunks : List (List Byte)) (o : Result) :
    chunks.foldl (fun o chunk => andThen o (rxFeed chunk)) o = andThen o (rxFeed chunks.flatten) := by
  induction chunks generalizing o with
  | nil => cases o <;> rfl
  | cons chunk chunks ih =>
    calc (chunk :: chunks).foldl (fun o chunk => andThen o (rxFeed chunk)) o
      _ = andThen (andThen o (rxFeed chunk)) (rxFeed chunks.flatten) := ih _
      _ = andThen o fun s => andThen (rxFeed chunk s) (rxFeed chunks.flatten) := andThen_assoc _ _ _
      _ = andThen o (rxFeed (chunk :: chunks).flatten) := by
        rw [List.flatten_cons, funext (rxFeed_append chunk chunks.flatten)]

end Sys2Proof.Machine

open Sys2Proof Sys2Proof.Machine

/-- Settles O31: the calls in a row are one fold, which feeds the concatenation. -/
theorem chunkingIsNotObservable : Obligations.ChunkingIsNotObservable :=
  fun chunks s => foldl_rxFeed chunks (.next s)

end

section
/-! PROOFS. O45 and O21: the bounds fault of the payload buffer (R50, R56), which no instruction raises from a good
state, and which the byte step, its rows and the hook do raise where an index is outside the buffer. -/

namespace Sys2Proof.Machine

/-! ### Rows that are not selected -/

/-- A row or the hook that is not selected, or comes before `RX_INIT`, is refused. -/
theorem runRow_refused {sel : Bool} {body : State → Result} {s : State} (h : ¬ (s.rx.inited = true ∧ sel = true)) :
    ∃ r, runRow sel body s = .refused r := by
  unfold runRow
  split
  next hi =>
    split
    next hsel => exact absurd ⟨hi, hsel⟩ h
    next => exact ⟨_, rfl⟩
  next => exact ⟨_, rfl⟩

/-- A row is refused, unless it is the one selected, on an initialised receiver. -/
theorem row_selected_or_refused {i : Instr} {b : Byte} (hm : i ∈ feedRows b) (s : State) :
    (s.rx.inited = true ∧ i = selectedRow b s) ∨ ∃ r, exec i s = .refused r := by
  simp only [feedRows, List.mem_cons, List.not_mem_nil, or_false] at hm
  rcases hm with rfl | rfl | rfl | rfl | rfl | rfl | rfl | rfl | rfl | rfl | rfl | rfl
  all_goals
    simp only [exec, execFeedEmptyStart, execFeedEmptyOther, execFeedGotStart, execFeedGotTypeAccept,
      execFeedGotTypeReject, execFeedGotLength, execFeedGotChecksumHighZero, execFeedGotChecksumHighNonzero,
      execFeedReceivingPayloadLast, execFeedReceivingPayloadMore, execFeedComplete, execFeedIllegal7]
    refine or_iff_not_imp_left.mpr fun hne => runRow_refused fun ⟨hi, hsel⟩ => hne ⟨hi, ?_⟩
    simp only [isMarker, lengthAccepted, noPayload, isLastByte, Bool.and_eq_true, Bool.not_eq_true', beq_iff_eq,
      beq_eq_false_iff_ne, decide_eq_true_eq, decide_eq_false_iff_not] at hsel
    simp [selectedRow, decodeRow, stateCode, hsel]

/-! ### No fault from a good state -/

namespace GoodState
variable {s : State}

theorem execRxFeedByte_ne_fault (hg : GoodState s) (b : Byte) (r : Fault) : execRxFeedByte b s ≠ .fault r := by
  by_cases hi : s.rx.inited = true
  · rw [execRxFeedByte_of_feedRuns (hg.feedRuns hi)]
    nofun
  · rw [execRxFeedByte, if_neg hi]
    nofun

theorem rxFeed_ne_fault (hg : GoodState s) (bs : List Byte) (r : Fault) : Machine.rxFeed bs s ≠ .fault r := by
  induction bs generalizing s with
  | nil => nofun
  | cons b bs ih =>
    intro h
    rcases andThen_eq_fault.mp h with hfirst | ⟨u, hu, hrest⟩
    · exact hg.execRxFeedByte_ne_fault b r hfirst
    · have hgu : GoodState u := hg.exec (i := .rxFeedByte b) hu
      exact ih hgu hrest

/-- The hook has no good state to run in: `Complete` is never a resting state (R34 (I-a)). -/
theorem completeHook_ne_fault (hg : GoodState s) (r : Fault) : execCompleteHook s ≠ .fault r := by
  have hrun : ¬ (s.rx.inited = true ∧ (s.rx.state == .complete) = true) :=
    fun ⟨hi, hs⟩ => (hg.resting hi).1 (beq_iff_eq.mp hs)
  obtain ⟨r', hr'⟩ := runRow_refused (body := runHook) hrun
  rw [execCompleteHook, hr']
  nofun

theorem row_ne_fault {i : Instr} {b : Byte} (hg : GoodState s) (hm : i ∈ feedRows b) (r : Fault) :
    Machine.exec i s ≠ .fault r := by
  rcases row_selected_or_refused hm s with ⟨hi, rfl⟩ | ⟨r', hr'⟩
  · rw [exec_selectedRow b hi]
    exact hg.execRxFeedByte_ne_fault b r
  · rw [hr']
    nofun

theorem exec_ne_fault (hg : GoodState s) (i : Instr) (r : Fault) : Machine.exec i s ≠ .fault r := by
  cases i with
  | crcUpdate | serialize | rxInit | reservedOp5 | reservedOp6 | reservedOp7 => nofun
  | rxReset =>
    simp only [Machine.exec, execRxReset]
    split <;> nofun
  | rxFeedByte b => exact hg.execRxFeedByte_ne_fault b r
  | feedEmptyStart b | feedEmptyOther b | feedGotStart b | feedGotTypeAccept b | feedGotTypeReject b
  | feedGotLength b | feedGotChecksumHighZero b | feedGotChecksumHighNonzero b | feedReceivingPayloadLast b
  | feedReceivingPayloadMore b | feedComplete b | feedIllegal7 b =>
    exact hg.row_ne_fault (b := b) (by simp [feedRows]) r
  | completeHook => exact hg.completeHook_ne_fault r
  | frameHeader m x l lo hi => exact hg.rxFeed_ne_fault [m, x, l, lo, hi] r

end GoodState

/-! ### The fault outside the buffer -/

theorem storePayload_of_ge {b : Byte} {s : State} (h : s.cfg.maxLen ≤ s.rx.count.toNat) :
    storePayload b s = .fault .payloadOutOfBounds := if_neg (by omega)

theorem runHook_of_gt {s : State} (h : s.cfg.maxLen < s.rx.pktLen.toNat) :
    runHook s = .fault .payloadOutOfBounds := if_neg (by omega)

/-- In `ReceivingPayload` both rows store at `count` first (R162, R163). -/
theorem execRxFeedByte_of_count_ge {b : Byte} {s : State} (hi : s.rx.inited = true)
    (hs : s.rx.state = .receivingPayload) (hc : s.cfg.maxLen ≤ s.rx.count.toNat) :
    execRxFeedByte b s = .fault .payloadOutOfBounds := by
  have hstore : transition b s = .fault .payloadOutOfBounds := by
    simp [transition, hs, tRpLast, tRpMore, storePayload_of_ge hc]
  rw [execRxFeedByte_of_resting hi (by simp [hs]) (by simp [hs]), hstore, andThen_fault]

/-- In `Complete` the hook runs first (R153, R164). -/
theorem execRxFeedByte_of_pktLen_gt {b : Byte} {s : State} (hi : s.rx.inited = true) (hs : s.rx.state = .complete)
    (hl : s.cfg.maxLen < s.rx.pktLen.toNat) : execRxFeedByte b s = .fault .payloadOutOfBounds := by
  simp [execRxFeedByte, hi, hs, hookIfComplete_of_eq hs, runHook_of_gt hl]

theorem selectedRow_of_receivingPayload {b : Byte} {s : State} (hs : s.rx.state = .receivingPayload) :
    selectedRow b s = if s.rx.count + 1#8 = s.rx.pktLen then .feedReceivingPayloadLast b
      else .feedReceivingPayloadMore b := by
  simp only [selectedRow, decodeRow, stateCode, hs]

theorem selectedRow_of_complete {b : Byte} {s : State} (hs : s.rx.state = .complete) :
    selectedRow b s = .feedComplete b := by
  simp only [selectedRow, decodeRow, stateCode, hs]

end Sys2Proof.Machine

open Sys2Proof Sys2Proof.Machine

/-- Settles O45: a row not selected is refused, and the byte step, of which the selected one is part, answers from a
good state. -/
theorem noBoundsFaultFromGoodStates : Obligations.NoBoundsFaultFromGoodStates :=
  fun i _ r hg => hg.exec_ne_fault i r

/-- Settles O21: the rows fault as the `RX_FEED_BYTE` they are part of. -/
theorem bufferHasNoIndexBeyondItsCapacity : Obligations.BufferHasNoIndexBeyondItsCapacity := by
  intro s b hi
  have hrow := exec_selectedRow b hi
  refine ⟨fun hs hc => ?_, fun hs hl => ?_⟩
  · have hfeed : execRxFeedByte b s = .fault .payloadOutOfBounds := execRxFeedByte_of_count_ge hi hs hc
    rw [selectedRow_of_receivingPayload hs, hfeed] at hrow
    exact ⟨hfeed, fun hlast => by rwa [if_pos hlast] at hrow, fun hmore => by rwa [if_neg hmore] at hrow⟩
  · have hfeed : execRxFeedByte b s = .fault .payloadOutOfBounds := execRxFeedByte_of_pktLen_gt hi hs hl
    rw [selectedRow_of_complete hs, hfeed] at hrow
    have hhook : exec .completeHook s = runHook s := runRow_selected hi (beq_iff_eq.mpr hs)
    exact ⟨hhook.trans (runHook_of_gt hl), hrow⟩

end

section
/-! PROOFS. O47: what every instruction does to the payload buffer (R56). -/

namespace Sys2Proof.Machine

theorem tEmpty_rx_payload (b : Byte) (s : State) : (tEmpty b s).rx.payload = s.rx.payload := by
  unfold tEmpty
  split <;> rfl

/-- The byte step stores its byte at `count` in `ReceivingPayload`, and nothing elsewhere. -/
theorem feedNext_rx_payload (b : Byte) (s : State) : (feedNext b s).rx.payload =
    if s.rx.state = .receivingPayload then s.rx.payload.write s.rx.count.toNat b else s.rx.payload := by
  cases hs : s.rx.state <;> simp only [feedNext, hs, reduceCtorEq, if_true, if_false]
  case empty => exact tEmpty_rx_payload b s
  case gotStart | gotLength => rfl
  case gotType => split <;> rfl
  case gotChecksumHigh => split <;> simp
  case receivingPayload => split <;> simp
  case complete => simp [tEmpty_rx_payload]

/-- At every address but `count` in `ReceivingPayload`, the byte step leaves what was there. -/
theorem feedNext_read_other (b : Byte) {s : State} {a : Nat}
    (ha : s.rx.state ≠ .receivingPayload ∨ a ≠ s.rx.count.toNat) :
    (feedNext b s).rx.payload.read a = s.rx.payload.read a := by
  rw [feedNext_rx_payload]
  split
  next hs => exact Memory.read_write_other _ b (ha.resolve_left (not_not_intro hs))
  next => rfl

theorem feedNext_read_count (b : Byte) {s : State} (hs : s.rx.state = .receivingPayload) :
    (feedNext b s).rx.payload.read s.rx.count.toNat = some b := by
  rw [feedNext_rx_payload, if_pos hs, Memory.read_write_same]

/-- A row that answers has done what the byte step does. -/
theorem eq_feedNext_of_row {i : Instr} {b : Byte} {s t : State} (hm : i ∈ feedRows b) (h : exec i s = .next t) :
    t = feedNext b s := by
  obtain ⟨hi, rfl⟩ := row_selected_of_next hm h
  rw [exec_selectedRow b hi] at h
  exact (execRxFeedByte_eq_next.mp h).2

/-- Every instruction but `FRAME_HEADER`, which is five byte steps. -/
theorem exec_read_other {i : Instr} {s t : State} (h : exec i s = .next t)
    (hne : ∀ m x l lo hi, i ≠ .frameHeader m x l lo hi) {a : Nat}
    (ha : s.rx.state ≠ .receivingPayload ∨ a ≠ s.rx.count.toNat) : t.rx.payload.read a = s.rx.payload.read a := by
  cases exec_eq_next.mp h with
  | crcUpdate | serialize | rxInit | rxReset => rfl
  | rxFeedByte b | row b => exact feedNext_read_other b ha
  | completeHook => rw [validate_rx]
  | frameHeader hf => exact absurd rfl (hne _ _ _ _ _)

end Sys2Proof.Machine

open Sys2Proof Sys2Proof.Machine

/-- Settles O47: the byte step and its rows store at `count` in `ReceivingPayload`; no other instruction stores. -/
theorem bufferIsWrittenAtCountOnly : Obligations.BufferIsWrittenAtCountOnly := by
  intro i s t h hne
  refine ⟨fun a ha => exec_read_other h hne ha, fun hs b hb => ?_⟩
  have ht : t = feedNext b s := by
    rcases hb with rfl | rfl | rfl
    · exact (execRxFeedByte_eq_next.mp h).2
    · exact eq_feedNext_of_row (by simp [feedRows]) h
    · exact eq_feedNext_of_row (by simp [feedRows]) h
  rw [ht]
  exact feedNext_read_count b hs

end

section
/-! PROOFS. O51: the events so far are written and never read, so `CRC_UPDATE` and `SERIALIZE`, which do nothing but
emit (R59, R115, R134), commute with every operation. -/

namespace Sys2Proof.Machine

/-! ### A state after more events -/

/-- The same state after the events `past` as well. -/
def withPast (past : List Event) (s : State) : State := { s with trace := past ++ s.trace }

@[simp] theorem withPast_cfg (past : List Event) (s : State) : (withPast past s).cfg = s.cfg := rfl
@[simp] theorem withPast_rx (past : List Event) (s : State) : (withPast past s).rx = s.rx := rfl
@[simp] theorem withPast_pending (past : List Event) (s : State) : (withPast past s).pending = s.pending := rfl
@[simp] theorem withPast_trace (past : List Event) (s : State) : (withPast past s).trace = past ++ s.trace := rfl

/-- The state with no event yet. -/
def withoutTrace (s : State) : State := { s with trace := [] }

theorem withPast_withoutTrace (s : State) : withPast s.trace (withoutTrace s) = s := by
  simp [withPast, withoutTrace]

theorem emit_eq_withPast (e : Event) (s : State) : emit e s = withPast (s.trace ++ [e]) (withoutTrace s) := by
  simp [emit, withPast, withoutTrace]

variable (past : List Event) (b : Byte) (s : State)

theorem emit_withPast (e : Event) : emit e (withPast past s) = withPast past (emit e s) := by
  simp [emit, withPast]

theorem validate_withPast : validate (withPast past s) = withPast past (validate s) :=
  calc validate (withPast past s)
    _ = if computedChecksum s = s.rx.pktCrc
        then resetToEmpty (emit (.dispatch s.rx.handler (packetHeld s)) (withPast past s))
        else resetToEmpty (emit (.drop .checksumMismatch) (withPast past s)) := rfl
    _ = withPast past (validate s) := by
        simp only [emit_withPast, validate]
        split <;> rfl

theorem tEmpty_withPast : tEmpty b (withPast past s) = withPast past (tEmpty b s) :=
  (apply_ite (withPast past) (isMarker b s = true) (tEmptyStart b s) (tEmptyOther b s)).symm

theorem tGotTypeReject_withPast : tGotTypeReject b (withPast past s) = withPast past (tGotTypeReject b s) :=
  congrArg resetToEmpty (emit_withPast past s (.drop .invalidLengthField))

/-- The byte step does not look at the events before it. -/
theorem feedNext_withPast : feedNext b (withPast past s) = withPast past (feedNext b s) := by
  cases hs : s.rx.state <;> simp only [feedNext, withPast_rx, hs]
  case empty => exact tEmpty_withPast past b s
  case gotStart | gotLength => rfl
  case gotType =>
    rw [tGotTypeReject_withPast, apply_ite (withPast past)]
    rfl
  case gotChecksumHigh =>
    rw [apply_ite (withPast past), ← validate_withPast]
    rfl
  case receivingPayload =>
    rw [apply_ite (withPast past), ← validate_withPast]
    rfl
  case complete => rw [validate_withPast, tEmpty_withPast]

variable {past b s}

/-! ### Every instruction, whatever was emitted before -/

theorem feedRuns_withPast_iff : FeedRuns (withPast past s) ↔ FeedRuns s :=
  ⟨fun ⟨hi, h7, hstore, hpacket⟩ => ⟨hi, h7, hstore, hpacket⟩,
    fun ⟨hi, h7, hstore, hpacket⟩ => ⟨hi, h7, hstore, hpacket⟩⟩

theorem rxFeed_withPast_eq_next {bs : List Byte} {t : State} :
    rxFeed bs (withPast past s) = .next t ↔ ∃ u, rxFeed bs s = .next u ∧ t = withPast past u := by
  induction bs generalizing s with
  | nil => simp [eq_comm]
  | cons b bs ih =>
    simp only [rxFeed_cons_eq_next, feedRuns_withPast_iff, feedNext_withPast, ih, and_assoc, exists_and_left]

/-- What an instruction does after `past` too, it does without it. -/
theorem completes_of_withPast {i : Instr} {t : State} (h : Completes i (withPast past s) t) :
    ∃ u, Completes i s u ∧ t = withPast past u := by
  cases h with
  | crcUpdate b r => exact ⟨_, .crcUpdate b r s, emit_withPast past s _⟩
  | serialize x p => exact ⟨_, .serialize x p s, emit_withPast past s _⟩
  | rxInit hd ctx => exact ⟨_, .rxInit hd ctx s, rfl⟩
  | rxReset hi => exact ⟨_, .rxReset hi, rfl⟩
  | rxFeedByte b hr => exact ⟨_, .rxFeedByte b (feedRuns_withPast_iff.mp hr), feedNext_withPast past b s⟩
  | row b hr => exact ⟨_, .row b (feedRuns_withPast_iff.mp hr), feedNext_withPast past b s⟩
  | completeHook hi hs hl => exact ⟨_, .completeHook hi hs hl, validate_withPast past s⟩
  | frameHeader hf =>
    obtain ⟨u, hu, rfl⟩ := rxFeed_withPast_eq_next.mp hf
    exact ⟨u, .frameHeader hu, rfl⟩

/-- What an instruction does without `past`, it does after it. -/
theorem completes_withPast {i : Instr} {t : State} (h : Completes i s t) :
    Completes i (withPast past s) (withPast past t) := by
  cases h with
  | crcUpdate b r => exact emit_withPast past s _ ▸ .crcUpdate b r (withPast past s)
  | serialize x p => exact emit_withPast past s _ ▸ .serialize x p (withPast past s)
  | rxInit hd ctx => exact .rxInit hd ctx (withPast past s)
  | rxReset hi => exact .rxReset (s := withPast past s) hi
  | rxFeedByte b hr => exact feedNext_withPast past b s ▸ .rxFeedByte b (feedRuns_withPast_iff.mpr hr)
  | row b hr => exact feedNext_withPast past b s ▸ .row b (feedRuns_withPast_iff.mpr hr)
  | completeHook hi hs hl => exact validate_withPast past s ▸ .completeHook (s := withPast past s) hi hs hl
  | frameHeader hf => exact .frameHeader (rxFeed_withPast_eq_next.mpr ⟨t, hf, rfl⟩)

/-- The events before are carried along and change nothing else. -/
theorem exec_withPast_eq_next {i : Instr} {t : State} :
    exec i (withPast past s) = .next t ↔ ∃ u, exec i s = .next u ∧ t = withPast past u := by
  simp only [exec_eq_next]
  constructor
  · exact completes_of_withPast
  · rintro ⟨u, hu, rfl⟩
    exact completes_withPast hu

/-- `CRC_UPDATE` and `SERIALIZE` do nothing but emit one event, which the parameters and the operands fix. -/
theorem exec_stateless {i : Instr} (c : Config) (hi : (∃ b r, i = .crcUpdate b r) ∨ ∃ x p, i = .serialize x p) :
    ∃ e, ∀ s : State, s.cfg = c → exec i s = .next (emit e s) := by
  rcases hi with ⟨b, r, rfl⟩ | ⟨x, p, rfl⟩
  · exact ⟨.crcOut (crcUpdate b r), fun _ _ => rfl⟩
  · exact ⟨.serialized (serialize c x p), fun _ hc => hc ▸ rfl⟩

end Sys2Proof.Machine

open Sys2Proof Sys2Proof.Machine

/-- Settles O51: let `u` be what `j` answers with no event before it. In one order `j` answers `u` after the events of
`s` and `e`, in the other after the events of `s` only, and then `e` comes last. -/
theorem statelessOperationsCommute : Obligations.StatelessOperationsCommute := by
  intro i j s s1 t hi h1 h2
  obtain ⟨e, he⟩ := exec_stateless s.cfg hi
  rw [he s rfl] at h1
  cases h1
  rw [emit_eq_withPast] at h2
  obtain ⟨u, hu, rfl⟩ := exec_withPast_eq_next.mp h2
  have hj : exec j s = .next (withPast s.trace u) := by
    have hpast := exec_withPast_eq_next (past := s.trace).mpr ⟨u, hu, rfl⟩
    rwa [withPast_withoutTrace] at hpast
  have hcfg : (withPast s.trace u).cfg = s.cfg := (onlyInitBindsHandlerAndContext j s _ hj).1
  exact ⟨withPast s.trace u, emit e (withPast s.trace u), e, u.trace, hj, he _ hcfg, rfl, rfl, rfl, by simp, rfl⟩

end

section
/-! PROOFS. O37: frames back to back (R86, R137, R166 (c)). -/

namespace Sys2Proof.Machine

/-! ### The five header bytes from an idle receiver (R80, R154 to R161) -/

section
variable {s : State} {b : Byte} {bs : List Byte}

theorem rxFeed_cons_of_feedRuns (h : FeedRuns s) : rxFeed (b :: bs) s = rxFeed bs (feedNext b s) := by
  rw [rxFeed_cons, execRxFeedByte_of_feedRuns h, andThen_next]

/-- Before the payload the byte step uses no index of the buffer. -/
theorem feedRuns_of_header {x : RxState} (hi : s.rx.inited = true) (hs : s.rx.state = x)
    (hx : x ∈ [.empty, .gotStart, .gotType, .gotLength, .gotChecksumHigh]) : FeedRuns s := by
  subst hs
  exact ⟨hi, fun h => by simp [h] at hx, fun h => by simp [h] at hx, fun h => by simp [h] at hx⟩

theorem rxFeed_cons_empty_marker (hi : s.rx.inited = true) (hs : s.rx.state = .empty) :
    rxFeed (s.cfg.startMarker :: bs) s = rxFeed bs (tEmptyStart s.cfg.startMarker s) := by
  rw [rxFeed_cons_of_feedRuns (feedRuns_of_header hi hs (by decide))]
  simp [feedNext, hs, tEmpty, isMarker]

theorem rxFeed_cons_gotStart (hi : s.rx.inited = true) (hs : s.rx.state = .gotStart) :
    rxFeed (b :: bs) s = rxFeed bs (tGotStart b s) := by
  rw [rxFeed_cons_of_feedRuns (feedRuns_of_header hi hs (by decide))]
  simp [feedNext, hs]

theorem rxFeed_cons_gotType_accept (hi : s.rx.inited = true) (hs : s.rx.state = .gotType)
    (hb : b.toNat ≤ s.cfg.maxLen) : rxFeed (b :: bs) s = rxFeed bs (tGotTypeAccept b s) := by
  rw [rxFeed_cons_of_feedRuns (feedRuns_of_header hi hs (by decide))]
  simp [feedNext, hs, lengthAccepted, hb]

theorem rxFeed_cons_gotLength (hi : s.rx.inited = true) (hs : s.rx.state = .gotLength) :
    rxFeed (b :: bs) s = rxFeed bs (tGotLength b s) := by
  rw [rxFeed_cons_of_feedRuns (feedRuns_of_header hi hs (by decide))]
  simp [feedNext, hs]

theorem rxFeed_cons_gotChecksumHigh (hi : s.rx.inited = true) (hs : s.rx.state = .gotChecksumHigh) :
    rxFeed (b :: bs) s =
      rxFeed bs (if s.rx.pktLen = 0#8 then validate (tGchZero b s) else tGchNonzero b s) := by
  rw [rxFeed_cons_of_feedRuns (feedRuns_of_header hi hs (by decide))]
  simp [feedNext, hs, noPayload]

end

/-- The state with a whole header recorded, and the rest as before (R23 to R26). -/
def withHeader (m t l lo hi : Byte) (s : State) : State :=
  { s with rx := { s.rx with pktStart := m, pktType := t, pktLen := l, pktCrc := joinBytes hi lo } }

/-- The state after the first four header bytes (R154, R156, R157, R159). -/
def awaitingChecksumHigh (m t l lo : Byte) (s : State) : State :=
  tGotLength lo (tGotTypeAccept l (tGotStart t (tEmptyStart m s)))

/-- The second checksum byte completes the header, whatever `pkt.crc` held before the first. -/
theorem tGchNonzero_awaitingChecksumHigh (m t l lo hi : Byte) (s : State) :
    tGchNonzero hi (awaitingChecksumHigh m t l lo s) = setRxState .receivingPayload (withHeader m t l lo hi s) := by
  simp only [tGchNonzero, awaitingChecksumHigh, tGotLength_rx_pktCrc, withHigh8_withLow8]
  rfl

theorem tGchZero_awaitingChecksumHigh (m t l lo hi : Byte) (s : State) :
    tGchZero hi (awaitingChecksumHigh m t l lo s) = setRxState .complete (withHeader m t l lo hi s) := by
  simp only [tGchZero, awaitingChecksumHigh, tGotLength_rx_pktCrc, withHigh8_withLow8]
  rfl

/-- What the header leaves behind: the packet validated if it has no payload, else the payload awaited. -/
theorem rxFeed_header {s : State} {t l lo hi : Byte} (hidle : Idle s) (hl : l.toNat ≤ s.cfg.maxLen) :
    rxFeed [s.cfg.startMarker, t, l, lo, hi] s = .next (
      if l = 0#8 then validate (setRxState .complete (withHeader s.cfg.startMarker t l lo hi s))
      else setRxState .receivingPayload (withHeader s.cfg.startMarker t l lo hi s)) := by
  obtain ⟨hinit, hs, -⟩ := hidle
  rw [← tGchZero_awaitingChecksumHigh, ← tGchNonzero_awaitingChecksumHigh]
  calc rxFeed [s.cfg.startMarker, t, l, lo, hi] s
    _ = rxFeed [t, l, lo, hi] (tEmptyStart s.cfg.startMarker s) := rxFeed_cons_empty_marker hinit hs
    _ = rxFeed [l, lo, hi] (tGotStart t (tEmptyStart s.cfg.startMarker s)) := rxFeed_cons_gotStart hinit rfl
    _ = rxFeed [lo, hi] (tGotTypeAccept l (tGotStart t (tEmptyStart s.cfg.startMarker s))) :=
      rxFeed_cons_gotType_accept hinit rfl hl
    _ = rxFeed [hi] (awaitingChecksumHigh s.cfg.startMarker t l lo s) := rxFeed_cons_gotLength hinit rfl
    _ = _ := rxFeed_cons_gotChecksumHigh hinit rfl

/-! ### The payload bytes (R162, R163) -/

/-- `payload[count] <- b; count <- count + 1` for each byte in order (R56). -/
def appendBytes (bs : List Byte) (s : State) : State := bs.foldl (fun u b => appendByte b u) s

theorem appendBytes_cons (b : Byte) (bs : List Byte) (s : State) :
    appendBytes (b :: bs) s = appendBytes bs (appendByte b s) := rfl

/-- Storing payload bytes writes `count` and the buffer, and nothing else. -/
theorem appendBytes_eq (bs : List Byte) (s : State) : appendBytes bs s =
    { s with rx := { s.rx with
      payload := (appendBytes bs s).rx.payload, count := (appendBytes bs s).rx.count } } := by
  induction bs generalizing s with
  | nil => rfl
  | cons b bs ih => exact ih (appendByte b s)

/-- One byte more is stored behind the bytes below `count`. -/
theorem payloadBytes_appendByte (b : Byte) (s : State) :
    payloadBytes (appendByte b s) (s.rx.count.toNat + 1) = payloadBytes s s.rx.count.toNat ++ [b] := by
  have hbelow : payloadBytes (appendByte b s) s.rx.count.toNat = payloadBytes s s.rx.count.toNat :=
    payloadBytes_congr fun i hi => Memory.read_write_other _ b (Nat.ne_of_lt hi)
  have hlast : payloadByte (appendByte b s) s.rx.count.toNat = b := by simp [payloadByte]
  rw [← hbelow]
  simp [payloadBytes, List.range_succ, hlast]

theorem payloadBytes_appendBytes {bs : List Byte} {s : State} (hfits : s.rx.count.toNat + bs.length < 256) :
    payloadBytes (appendBytes bs s) (s.rx.count.toNat + bs.length) = payloadBytes s s.rx.count.toNat ++ bs := by
  induction bs generalizing s with
  | nil => simp [appendBytes]
  | cons b bs ih =>
    rw [List.length_cons] at hfits
    have hcount : (appendByte b s).rx.count.toNat = s.rx.count.toNat + 1 :=
      toNat_succ_of_lt (Nat.lt_succ_self _) (by omega)
    calc payloadBytes (appendBytes bs (appendByte b s)) (s.rx.count.toNat + (bs.length + 1))
      _ = payloadBytes (appendBytes bs (appendByte b s)) ((appendByte b s).rx.count.toNat + bs.length) := by
        rw [hcount, Nat.add_assoc, Nat.add_comm 1]
      _ = payloadBytes (appendByte b s) (s.rx.count.toNat + 1) ++ bs := by rw [ih (by omega), hcount]
      _ = payloadBytes s s.rx.count.toNat ++ b :: bs := by simp [payloadBytes_appendByte]

/-- The bytes that complete the frame in progress are stored, and the packet is validated with the last. -/
theorem rxFeed_payload {bs : List Byte} {s : State} (hi : s.rx.inited = true) (hs : s.rx.state = .receivingPayload)
    (hne : bs ≠ []) (hlen : s.rx.count.toNat + bs.length = s.rx.pktLen.toNat)
    (hmax : s.rx.pktLen.toNat ≤ s.cfg.maxLen) :
    rxFeed bs s = .next (validate (setRxState .complete (appendBytes bs s))) := by
  induction bs generalizing s with
  | nil => exact absurd rfl hne
  | cons b bs ih =>
    rw [List.length_cons] at hlen
    have hstore : s.rx.count.toNat < s.cfg.maxLen := by omega
    have hcount : (s.rx.count + 1#8).toNat = s.rx.count.toNat + 1 := toNat_succ_of_lt hstore s.cfg.maxPayloadSize.isLt
    have hruns : FeedRuns s := ⟨hi, by simp [hs], fun _ => hstore, by simp [hs]⟩
    have hlast : isLastByte s = true ↔ bs = [] := by
      rw [isLastByte_iff, ← BitVec.toNat_inj, hcount, ← hlen, ← List.length_eq_zero_iff]
      omega
    rw [rxFeed_cons_of_feedRuns hruns]
    by_cases hbs : bs = []
    · subst hbs
      simp [feedNext, hs, hlast.mpr rfl, appendBytes]
    · have hmore : feedNext b s = appendByte b s := by simp [feedNext, hs, hlast, hbs]
      rw [hmore, appendBytes_cons]
      refine ih hi hs hbs ?_ hmax
      rw [appendByte_rx_count, hcount, appendByte_rx_pktLen]
      omega

/-! ### A whole frame -/

/-- The state in which the frame in progress has been received whole (R160, R162). -/
def frameReceived (t : Byte) (crc : Word) (payload : List Byte) (s : State) : State :=
  setRxState .complete (appendBytes payload (setRxState .receivingPayload
    (withHeader s.cfg.startMarker t (BitVec.ofNat 8 payload.length) (low8 crc) (high8 crc) s)))

theorem toNat_ofNat_length {payload : List Byte} {s : State} (hlen : payload.length ≤ s.cfg.maxLen) :
    (BitVec.ofNat 8 payload.length).toNat = payload.length :=
  Nat.mod_eq_of_lt (hlen.trans_lt s.cfg.maxPayloadSize.isLt)

/-- A frame that begins with the receiver's marker is validated, once and with its last byte (R166). -/
theorem rxFeed_frameBytes {s : State} (t : Byte) (crc : Word) {payload : List Byte} (hidle : Idle s)
    (hlen : payload.length ≤ s.cfg.maxLen) :
    rxFeed (frameBytes s.cfg.startMarker t (BitVec.ofNat 8 payload.length) crc payload) s =
      .next (validate (frameReceived t crc payload s)) := by
  have hl := toNat_ofNat_length hlen
  have hheader := rxFeed_header (t := t) (lo := low8 crc) (hi := high8 crc) hidle (hl.trans_le hlen)
  obtain ⟨hinit, -, hcount⟩ := hidle
  change rxFeed ([_, _, _, _, _] ++ payload) s = _
  rw [rxFeed_append, hheader, andThen_next]
  by_cases hnil : payload = []
  · subst hnil
    rfl
  · have hne : BitVec.ofNat 8 payload.length ≠ 0#8 := by
      intro h0
      rw [h0] at hl
      exact hnil (List.length_eq_zero_iff.mp hl.symm)
    rw [if_neg hne]
    refine rxFeed_payload hinit rfl hnil ?_ (hl.trans_le hlen)
    change s.rx.count.toNat + _ = (BitVec.ofNat 8 payload.length).toNat
    simp [hcount, hl]

/-- The packet held once its payload is stored from index 0: what the buffer held before is not seen (R35). -/
theorem packetHeld_appendBytes {bs : List Byte} {s : State} (hcount : s.rx.count = 0#8)
    (hlen : s.rx.pktLen.toNat = bs.length) :
    packetHeld (appendBytes bs s) = { packetHeld s with payload := bs } := by
  have hstored : payloadBytes (appendBytes bs s) s.rx.pktLen.toNat = bs := by
    simpa [hcount, hlen] using payloadBytes_appendBytes (bs := bs) (s := s) (by rw [hcount, ← hlen]; simp; omega)
  calc packetHeld (appendBytes bs s)
    _ = { packetHeld s with payload := payloadBytes (appendBytes bs s) s.rx.pktLen.toNat } := by
      conv_lhs => rw [appendBytes_eq]
      rfl
    _ = { packetHeld s with payload := bs } := by rw [hstored]

/-- The packet held then is the frame's, whatever the header fields held before. -/
theorem packetHeld_frameReceived {s : State} (t : Byte) (crc : Word) {payload : List Byte} (hidle : Idle s)
    (hlen : payload.length ≤ s.cfg.maxLen) : packetHeld (frameReceived t crc payload s) =
      { start := s.cfg.startMarker, ptype := t, len := BitVec.ofNat 8 payload.length, crc := crc, payload := payload,
        ctx := s.rx.ctx } := by
  obtain ⟨-, -, hcount⟩ := hidle
  have hheld := packetHeld_appendBytes (s := setRxState .receivingPayload (withHeader s.cfg.startMarker t
    (BitVec.ofNat 8 payload.length) (low8 crc) (high8 crc) s)) hcount (toNat_ofNat_length hlen)
  refine hheld.trans ?_
  simp [packetHeld, withHeader]

section
variable (t : Byte) (crc : Word) (payload : List Byte) (s : State)

theorem frameReceived_rx_handler : (frameReceived t crc payload s).rx.handler = s.rx.handler :=
  congrArg (·.rx.handler) (appendBytes_eq payload _)

theorem frameReceived_rx_inited : (frameReceived t crc payload s).rx.inited = s.rx.inited :=
  congrArg (·.rx.inited) (appendBytes_eq payload _)

theorem frameReceived_trace : (frameReceived t crc payload s).trace = s.trace :=
  congrArg (·.trace) (appendBytes_eq payload _)

end

theorem packetEvent_of_checksum {handler : Option Nat} {d : Dispatch}
    (h : packetChecksum d.ptype d.len d.payload = d.crc) : packetEvent handler d = .dispatch handler d := if_pos h

/-- One serialized frame from an idle receiver is one dispatch, and the receiver is idle again (R137). -/
theorem rxFeed_serializedFrame {s : State} (t : Byte) {payload : List Byte} (hidle : Idle s)
    (hlen : payload.length ≤ s.cfg.maxLen) :
    ∃ u, rxFeed (serializedFrame s.cfg t payload) s = .next u ∧ u.trace = s.trace ++ [dispatchOf s t payload] ∧
      Idle u := by
  refine ⟨_, rxFeed_frameBytes t _ hidle hlen, ?_, ?_⟩
  · rw [validate_trace_eq_packetEvent, packetHeld_frameReceived t _ hidle hlen, packetEvent_of_checksum rfl,
      frameReceived_trace, frameReceived_rx_handler, dispatchOf]
  · simp [Idle, frameReceived_rx_inited, hidle.1]

/-- The dispatch of a frame depends on the parameters, the handler and the context of the receiver only. -/
theorem KeepsBindings.dispatchOf_eq {s u : State} (h : KeepsBindings s u) (t : Byte) (payload : List Byte) :
    dispatchOf u t payload = dispatchOf s t payload := by
  simp only [dispatchOf, h.cfg, h.handler, h.ctx]

end Sys2Proof.Machine

open Sys2Proof Sys2Proof.Machine

/-- Settles O37, by induction on the frames: each is one dispatch from an idle receiver and leaves it idle, with the
parameters, handler and context the next dispatch shows. -/
theorem backToBackFramesAreAllDispatched : Obligations.BackToBackFramesAreAllDispatched := by
  intro packets s hidle hlen
  induction packets generalizing s with
  | nil => exact ⟨s, rfl, by simp, hidle⟩
  | cons p packets ih =>
    obtain ⟨hp, hrest⟩ := List.forall_mem_cons.mp hlen
    obtain ⟨u, hu, htrace, hidle'⟩ := rxFeed_serializedFrame p.1 hidle hp
    have hkeeps := KeepsBindings.rxFeed hu
    obtain ⟨v, hv, hvtrace, hvidle⟩ := ih u hidle' (by rwa [hkeeps.cfg])
    rw [hkeeps.cfg] at hv
    refine ⟨v, ?_, ?_, hvidle⟩
    · rw [List.flatMap_cons, rxFeed_append, hu, andThen_next, hv]
    · simp [hvtrace, htrace, hkeeps.dispatchOf_eq]

end

section
/-! PROOFS. O57, O58, O59 and O60: decoding, encoding and codes (R90, R91, R93, R80,
R97, R21). -/

namespace Sys2Proof

/-! ### Decoding what the encoder gives -/

/-- The two bytes of a 16-bit operand give it back. -/
theorem wordOf_halves (w : Word) : wordOf (w.extractLsb' 0 8) (w.extractLsb' 8 8) = w :=
  Machine.joinBytes_high8_low8 w

theorem decodeSerialize_encoded (t : Byte) {payload : List Byte} (h : payload.length < 2 ^ Config.serLenW) :
    decodeSerialize (t :: (bytesOfWord (BitVec.ofNat 16 payload.length) ++ payload)) = .ok (.serialize t payload) := by
  have hlen : (BitVec.ofNat 16 payload.length).toNat = payload.length := Nat.mod_eq_of_lt h
  simp only [bytesOfWord, List.cons_append, List.nil_append, decodeSerialize, wordOf_halves, hlen, le_refl, if_true,
    List.take_length]

/-- The decoder reads a well-formed instruction from its encoding; for a row, well-formed means that its encoding
selects it (R93). -/
theorem decode_encode {c : Config} {i : Instr} (h : i.wf c = true) : decode c (encode i) = .ok i := by
  cases i with
  | crcUpdate b r => exact congrArg (fun w => Except.ok (Instr.crcUpdate b w)) (wordOf_halves r)
  | serialize t p => exact decodeSerialize_encoded t (of_decide_eq_true h)
  | rxInit hd x => exact congrArg (fun ctx => Except.ok (Instr.rxInit hd ctx)) (Nat.mod_eq_of_lt (of_decide_eq_true h))
  | feedEmptyStart b => exact congrArg Except.ok (if_pos (of_decide_eq_true h))
  | feedEmptyOther b => exact congrArg Except.ok (if_neg (of_decide_eq_true h))
  | feedGotTypeAccept b => exact congrArg Except.ok (if_pos (of_decide_eq_true h))
  | feedGotTypeReject b => exact congrArg Except.ok (if_neg (Nat.not_le_of_lt (of_decide_eq_true h)))
  | rxReset | rxFeedByte | reservedOp5 | reservedOp6 | reservedOp7 | feedGotStart | feedGotLength
  | feedGotChecksumHighZero | feedGotChecksumHighNonzero | feedReceivingPayloadLast | feedReceivingPayloadMore
  | feedComplete | feedIllegal7 | completeHook | frameHeader => rfl

/-! ### What the decoder gives -/

/-- The decode table selects a row whose condition on the byte holds (R93). -/
theorem decodeRow_wf (c : Config) (code : Nat) (b len count : Byte) : (decodeRow c code b len count).wf c = true := by
  unfold decodeRow
  split
  · split
    next h => exact decide_eq_true h
    next h => exact decide_eq_true h
  · rfl
  · split
    next h => exact decide_eq_true h
    next h => exact decide_eq_true (Nat.lt_of_not_le h)
  · rfl
  · split <;> rfl
  · split <;> rfl
  · rfl
  · rfl

theorem decodeCrcUpdate_wf {c : Config} {args : List Byte} {i : Instr} (h : decodeCrcUpdate args = .ok i) :
    i.wf c = true := by
  unfold decodeCrcUpdate at h
  split at h <;> cases h
  rfl

/-- A payload of `ser_len` bytes has a length of 16 bits (R135). -/
theorem decodeSerialize_wf {c : Config} {args : List Byte} {i : Instr} (h : decodeSerialize args = .ok i) :
    i.wf c = true := by
  unfold decodeSerialize at h
  split at h
  next t lo hi payload =>
    split at h <;> cases h
    have hlen : (payload.take (wordOf lo hi).toNat).length < 2 ^ Config.serLenW :=
      (List.length_take_le _ _).trans_lt (wordOf lo hi).isLt
    exact decide_eq_true hlen
  next => cases h

theorem decodeFeedByte_wf {c : Config} {args : List Byte} {i : Instr} (h : decodeFeedByte args = .ok i) :
    i.wf c = true := by
  unfold decodeFeedByte at h
  split at h <;> cases h
  rfl

theorem decodeOp_wf {c : Config} {r : Request} {i : Instr} (h : decodeOp c r = .ok i) : i.wf c = true := by
  unfold decodeOp at h
  split at h
  next => cases h
  next =>
    split at h
    next => exact decodeCrcUpdate_wf h
    next => exact decodeSerialize_wf h
    next =>
      cases h
      exact decide_eq_true (Nat.mod_lt _ (Nat.two_pow_pos _))
    next =>
      cases h
      rfl
    next => exact decodeFeedByte_wf h
    all_goals
      cases h
      rfl

theorem decodeTransition_wf {c : Config} {bytes : List Byte} {i : Instr} (h : decodeTransition c bytes = .ok i) :
    i.wf c = true := by
  unfold decodeTransition at h
  split at h <;> cases h
  exact decodeRow_wf c _ _ _ _

theorem decodeInternal_wf {c : Config} {bytes : List Byte} {i : Instr} (h : decodeInternal bytes = .ok i) :
    i.wf c = true := by
  unfold decodeInternal at h
  split at h
  next =>
    split at h <;> cases h
    rfl
  next => cases h

theorem decodeHeader_wf {c : Config} {bytes : List Byte} {i : Instr} (h : decodeHeader bytes = .ok i) :
    i.wf c = true := by
  unfold decodeHeader at h
  split at h <;> cases h
  rfl

theorem decode_wf {c : Config} {r : Request} {i : Instr} (h : decode c r = .ok i) : i.wf c = true := by
  unfold decode at h
  split at h
  · exact decodeOp_wf h
  · exact decodeTransition_wf h
  · exact decodeInternal_wf h
  · exact decodeHeader_wf h

end Sys2Proof

open Sys2Proof Sys2Proof.Machine

/-- Settles O57: a word is joined from its two halves again, a length and a context fit their ports, and a well-formed
row meets the condition by which the decode table selects it. -/
theorem decodeOfEncodeIsTheInstruction : Obligations.DecodeOfEncodeIsTheInstruction :=
  fun _ _ h => decode_encode h

/-- Settles O58, one lemma per decoder: the port's width bounds the operand, the table's test is the row's condition. -/
theorem decodedInstructionsAreWellFormed : Obligations.DecodedInstructionsAreWellFormed :=
  fun _ _ _ h => decode_wf h

/-- Settles O59, by decoding the six words: no bit of them meets an OPEN parameter. -/
theorem writtenOutWordsDecode : Obligations.WrittenOutWordsDecode := by
  unfold Obligations.WrittenOutWordsDecode
  decide

/-- Settles O60, by evaluating the two code tables. -/
theorem errorAndStateCodes : Obligations.ErrorAndStateCodes := by
  unfold Obligations.ErrorAndStateCodes
  decide

end

section
/-! PROOFS. O27: which rows are refused, and by which name (R93, R173, R172). -/

namespace Sys2Proof.Machine

/-! ### What a stop of the byte step can be -/

theorem andThen_eq_refused {o : Result} {f : State → Result} {r : Refusal} :
    andThen o f = .refused r ↔ o = .refused r ∨ ∃ s, o = .next s ∧ f s = .refused r := by
  cases o <;> simp

theorem storePayload_ne_refused (b : Byte) (s : State) (r : Refusal) : storePayload b s ≠ .refused r := by
  unfold storePayload
  split <;> nofun

theorem hookIfComplete_ne_refused (s : State) (r : Refusal) : hookIfComplete s ≠ .refused r := by
  unfold hookIfComplete runHook
  split
  · split <;> nofun
  · nofun

/-- The one refusal of the `case state of` of R153 is R172's. -/
theorem transition_eq_refused {b : Byte} {s : State} {r : Refusal} (h : transition b s = .refused r) :
    r = .illegalState := by
  cases hs : s.rx.state <;> simp only [transition, hs, reduceCtorEq] at h
  case receivingPayload =>
    split at h
    · rcases andThen_eq_refused.mp h with hstore | ⟨_, -, hnext⟩
      · exact absurd hstore (storePayload_ne_refused b s r)
      · cases hnext
    · exact absurd h (storePayload_ne_refused b s r)
  case complete | illegal7 =>
    cases h
    rfl

/-- `RX_FEED_BYTE` is refused for two reasons only (R173, R172). -/
theorem execRxFeedByte_eq_refused {b : Byte} {s : State} {r : Refusal} (h : execRxFeedByte b s = .refused r) :
    r = .notInitialised ∨ r = .illegalState := by
  unfold execRxFeedByte at h
  split at h
  next =>
    split at h
    next =>
      cases h
      exact .inr rfl
    next =>
      rcases andThen_eq_refused.mp h with hfirst | ⟨u, -, hhook⟩
      · rcases andThen_eq_refused.mp hfirst with hpre | ⟨u, -, htrans⟩
        · exact absurd hpre (hookIfComplete_ne_refused s r)
        · exact .inr (transition_eq_refused htrans)
      · exact absurd hhook (hookIfComplete_ne_refused u r)
  next =>
    cases h
    exact .inl rfl

/-! ### Rows that are not selected -/

theorem runRow_of_not_inited {sel : Bool} {body : State → Result} {s : State} (hi : s.rx.inited = false) :
    runRow sel body s = .refused .notInitialised := by
  simp [runRow, hi]

theorem runRow_of_not_selected {sel : Bool} {body : State → Result} {s : State} (hi : s.rx.inited = true)
    (hsel : ¬ sel = true) : runRow sel body s = .refused .rowNotSelected := by
  simp [runRow, hi, hsel]

/-- Every row of the table is a guarded body, and where the guard holds it is the row the decode table selects. -/
theorem exec_row_eq_runRow {i : Instr} {b : Byte} (hm : i ∈ feedRows b) (s : State) :
    ∃ sel body, exec i s = runRow sel body s ∧ (sel = true → i = selectedRow b s) := by
  simp only [feedRows, List.mem_cons, List.not_mem_nil, or_false] at hm
  rcases hm with rfl | rfl | rfl | rfl | rfl | rfl | rfl | rfl | rfl | rfl | rfl | rfl
  all_goals
    simp only [exec, execFeedEmptyStart, execFeedEmptyOther, execFeedGotStart, execFeedGotTypeAccept,
      execFeedGotTypeReject, execFeedGotLength, execFeedGotChecksumHighZero, execFeedGotChecksumHighNonzero,
      execFeedReceivingPayloadLast, execFeedReceivingPayloadMore, execFeedComplete, execFeedIllegal7]
    refine ⟨_, _, rfl, fun hsel => ?_⟩
    simp only [isMarker, lengthAccepted, noPayload, isLastByte, Bool.and_eq_true, Bool.not_eq_true', beq_iff_eq,
      beq_eq_false_iff_ne, decide_eq_true_eq, decide_eq_false_iff_not] at hsel
    simp [selectedRow, decodeRow, stateCode, hsel]

/-- The table's row, tried where it selects another (R93, log entry 5). -/
theorem exec_row_of_ne_selectedRow {i : Instr} {b : Byte} {s : State} (hm : i ∈ feedRows b)
    (hi : s.rx.inited = true) (hne : i ≠ selectedRow b s) : exec i s = .refused .rowNotSelected := by
  obtain ⟨sel, body, hrun, hsel⟩ := exec_row_eq_runRow hm s
  rw [hrun, runRow_of_not_selected hi fun h => hne (hsel h)]

theorem exec_row_of_not_inited {i : Instr} {b : Byte} {s : State} (hm : i ∈ feedRows b)
    (hi : s.rx.inited = false) : exec i s = .refused .notInitialised := by
  obtain ⟨sel, body, hrun, -⟩ := exec_row_eq_runRow hm s
  rw [hrun, runRow_of_not_inited hi]

theorem exec_selectedRow_ne_rowNotSelected (b : Byte) {s : State} (hi : s.rx.inited = true) :
    exec (selectedRow b s) s ≠ .refused .rowNotSelected := by
  rw [exec_selectedRow b hi]
  intro h
  rcases execRxFeedByte_eq_refused h with h | h <;> cases h

end Sys2Proof.Machine

open Sys2Proof Sys2Proof.Machine

/-- Settles O27: a row's guard selects it where the decode table does, and the row selected is an `RX_FEED_BYTE`, which
is never refused by that name. -/
theorem exactlyOneRowIsSelected : Obligations.ExactlyOneRowIsSelected := by
  intro s b
  refine ⟨fun hi i hm => ⟨fun h => ?_, ?_⟩, fun hi hs => ?_, fun hi i hm => ?_⟩
  · exact not_imp_comm.mp (exec_row_of_ne_selectedRow hm hi) h
  · rintro rfl
    exact exec_selectedRow_ne_rowNotSelected b hi
  · exact runRow_of_not_selected hi (by simpa using hs)
  · rcases List.mem_append.mp hm with hm | hm
    · exact exec_row_of_not_inited hm hi
    · rw [List.mem_singleton.mp hm]
      exact runRow_of_not_inited hi

end

section
/-! PROOFS. O35: the frame header (R80, R93, R165). -/

namespace Sys2Proof.Machine

theorem validationEvent_eq_packetEvent (s : State) :
    validationEvent s = packetEvent s.rx.handler (packetHeld s) := rfl

/-- Validation returns to `Empty` and emits the event of R165, as that rule writes it out. -/
theorem validate_eq (s : State) : validate s =
    { s with rx := { s.rx with state := .empty, count := 0#8 }, trace := s.trace ++ [validationEvent s] } := by
  rw [← validate_rx, validationEvent_eq_packetEvent, ← validate_trace_eq_packetEvent]
  conv_rhs => rw [← validate_cfg s, ← validate_pending s]

theorem rxFeed_concat (bs : List Byte) (b : Byte) (s : State) :
    rxFeed (bs ++ [b]) s = andThen (rxFeed bs s) (execRxFeedByte b) := by
  have hlast : rxFeed [b] = execRxFeedByte b := funext fun u => by
    rw [rxFeed_cons]
    cases execRxFeedByte b u <;> rfl
  rw [rxFeed_append, hlast]

end Sys2Proof.Machine

open Sys2Proof Sys2Proof.Machine

/-- Settles O35: feeding a list is one byte step after another, and after the header an idle receiver, whose `state` and
`count` the validation of an empty packet puts back, holds it. -/
theorem frameHeaderIsConsumedInOrder : Obligations.FrameHeaderIsConsumedInOrder := by
  refine ⟨fun s m t l lo hi => ?_, ?_⟩
  · change rxFeed ([] ++ [m] ++ [t] ++ [l] ++ [lo] ++ [hi]) s = _
    simp only [rxFeed_concat, rxFeed_nil, andThen_next]
    rfl
  · rintro s _ t l lo hi hidle rfl hl
    have hheader : exec (.frameHeader s.cfg.startMarker t l lo hi) s = _ := rxFeed_header hidle hl
    refine ⟨fun hne => ?_, fun h0 => ?_⟩
    · rw [hheader, if_neg hne]
      rfl
    · obtain ⟨-, hs, hc⟩ := hidle
      rw [hheader, if_pos h0, validate_eq]
      simp only [← hs, ← hc]
      rfl

end

section
/-! PROOFS. O25: the reserved select codes (R92). -/

namespace Sys2Proof.Machine

/-- Select codes 5, 6 and 7 decode to the three reserved instructions, whatever follows them. -/
theorem decode_reserved {c : Config} {r : Request} {sel : Byte} {args : List Byte} (hf : r.format = .opSelect)
    (hb : r.bytes = sel :: args) (h5 : 5 ≤ sel.toNat % 8) :
    ∃ i ∈ [Instr.reservedOp5, .reservedOp6, .reservedOp7], decode c r = .ok i := by
  have hcode : selectCode sel = 5 ∨ selectCode sel = 6 ∨ selectCode sel = 7 := by
    unfold selectCode
    omega
  rcases hcode with h | h | h <;> simp [decode, hf, decodeOp, hb, h]

theorem issue_reserved {i : Instr} {r : Request} {s : State}
    (hi : i ∈ [Instr.reservedOp5, .reservedOp6, .reservedOp7]) (hd : decode s.cfg r = .ok i) :
    issue r s = .refused .reservedSelect := by
  simp only [List.mem_cons, List.not_mem_nil, or_false] at hi
  rcases hi with rfl | rfl | rfl <;> exact issue_eq_exec hd fun _ => rfl

end Sys2Proof.Machine

open Sys2Proof Sys2Proof.Machine

/-- Settles O25: the decoder reads a reserved instruction, which the step refuses, overlapping or not. -/
theorem reservedSelectsAreRefused : Obligations.ReservedSelectsAreRefused := by
  refine ⟨fun s => ⟨rfl, rfl, rfl⟩, fun s r sel args hp hf hb h5 => ?_⟩
  obtain ⟨rest, hp⟩ := List.head?_eq_some_iff.mp hp
  obtain ⟨i, hi, hd⟩ := decode_reserved hf hb h5
  rw [step_of_pending_cons hp]
  exact issue_reserved hi hd

end

section
/-! PROOFS. O1 to O8: the Checksum Engine (R110, R111, R113, R114, R116, R118). The step is a linear map over GF(2), so
it is known by its values on the single bits, and those are the values of eight bit-serial rounds. -/

namespace Sys2Proof.Machine

/-! ### The step over XOR -/

theorem low8_xor (v w : Word) : low8 (v ^^^ w) = low8 v ^^^ low8 w := BitVec.extractLsb'_xor

theorem high8_xor (v w : Word) : high8 (v ^^^ w) = high8 v ^^^ high8 w := BitVec.extractLsb'_xor

theorem zext16_xor (a b : Byte) : zext16 (a ^^^ b) = zext16 a ^^^ zext16 b := BitVec.setWidth_xor

theorem joinBytes_xor (hi hi' lo lo' : Byte) :
    joinBytes (hi ^^^ hi') (lo ^^^ lo') = joinBytes hi lo ^^^ joinBytes hi' lo' := BitVec.xor_append.symm

theorem zext16_eq_joinBytes (b : Byte) : zext16 b = joinBytes 0#8 b := BitVec.setWidth_eq_append (by decide)

@[simp] theorem low8_zext16 (b : Byte) : low8 (zext16 b) = b := by
  rw [zext16_eq_joinBytes, low8_joinBytes]

@[simp] theorem high8_zext16 (b : Byte) : high8 (zext16 b) = 0#8 := by
  rw [zext16_eq_joinBytes, high8_joinBytes]

/-- `e` of R110. -/
def mixedByte (b : Byte) (r : Word) : Byte := (b ^^^ low8 r) ^^^ (b ^^^ low8 r) <<< 4

theorem crcUpdate_eq_terms (b : Byte) (r : Word) : crcUpdate b r =
    joinBytes (mixedByte b r) (high8 r) ^^^ zext16 (mixedByte b r >>> 4) ^^^ zext16 (mixedByte b r) <<< 3 := rfl

theorem mixedByte_xor (b b' : Byte) (r r' : Word) :
    mixedByte (b ^^^ b') (r ^^^ r') = mixedByte b r ^^^ mixedByte b' r' := by
  simp only [mixedByte, low8_xor, BitVec.shiftLeft_xor_distrib]
  ac_rfl

/-- A byte cancels an equal low byte of the running value. -/
@[simp] theorem mixedByte_low8 (r : Word) : mixedByte (low8 r) r = 0#8 := by
  simp [mixedByte]

/-- R116 (d): every term of the step is linear. -/
theorem crcUpdate_xor (b b' : Byte) (r r' : Word) :
    crcUpdate (b ^^^ b') (r ^^^ r') = crcUpdate b r ^^^ crcUpdate b' r' := by
  simp only [crcUpdate_eq_terms, mixedByte_xor, high8_xor, joinBytes_xor, zext16_xor, BitVec.shiftLeft_xor_distrib,
    BitVec.ushiftRight_xor_distrib]
  ac_rfl

/-- The byte enters the step through the low half of the running value only (R110, corner cases). -/
theorem crcUpdate_eq_crcUpdate_zero (b : Byte) (r : Word) : crcUpdate b r = crcUpdate 0#8 (r ^^^ zext16 b) := by
  simp [crcUpdate_eq_terms, mixedByte, low8_xor, high8_xor, BitVec.xor_comm b]

/-! ### The bits of the new running value -/

theorem zext16_shiftLeft_three_getLsbD (v : Byte) {i : Nat} (h : i < 16) :
    (zext16 v <<< 3).getLsbD i = (decide (3 ≤ i) && v.getLsbD (i - 3)) := by
  rw [BitVec.getLsbD_shiftLeft, zext16_getLsbD _ (by omega), ← decide_not]
  simp only [h, decide_true, Bool.true_and, not_lt]

/-- R111, the high half: `t1` and `t3` have bits there, `t2` has none. -/
theorem crcUpdate_getLsbD_high (b : Byte) (r : Word) {i : Nat} (h : i < 8) :
    (crcUpdate b r).getLsbD (8 + i) = ((mixedByte b r).getLsbD i ^^ (mixedByte b r).getLsbD (5 + i)) := by
  have ht1 : (joinBytes (mixedByte b r) (high8 r)).getLsbD (8 + i) = (mixedByte b r).getLsbD i := by
    rw [joinBytes_getLsbD, if_neg (by omega), Nat.add_sub_cancel_left]
  have ht2 : (zext16 (mixedByte b r >>> 4)).getLsbD (8 + i) = false := by
    rw [zext16_getLsbD _ (by omega), BitVec.getLsbD_ushiftRight, BitVec.getLsbD_of_ge _ _ (by omega)]
  have ht3 : (zext16 (mixedByte b r) <<< 3).getLsbD (8 + i) = (mixedByte b r).getLsbD (5 + i) := by
    rw [zext16_shiftLeft_three_getLsbD _ (by omega), decide_eq_true (by omega), Bool.true_and,
      show 8 + i - 3 = 5 + i by omega]
  rw [crcUpdate_eq_terms, BitVec.getLsbD_xor, BitVec.getLsbD_xor, ht1, ht2, ht3, Bool.xor_false]

/-- R111, the low half: `t3` has no bit below bit 3. -/
theorem crcUpdate_getLsbD_low (b : Byte) (r : Word) {i : Nat} (h : i < 8) :
    (crcUpdate b r).getLsbD i = (r.getLsbD (8 + i) ^^ (mixedByte b r).getLsbD (4 + i) ^^
      (decide (3 ≤ i) && (mixedByte b r).getLsbD (i - 3))) := by
  have ht1 : (joinBytes (mixedByte b r) (high8 r)).getLsbD i = r.getLsbD (8 + i) := by
    rw [joinBytes_getLsbD, if_pos h, high8_getLsbD r h]
  have ht2 : (zext16 (mixedByte b r >>> 4)).getLsbD i = (mixedByte b r).getLsbD (4 + i) := by
    rw [zext16_getLsbD _ (by omega), BitVec.getLsbD_ushiftRight]
  rw [crcUpdate_eq_terms, BitVec.getLsbD_xor, BitVec.getLsbD_xor, ht1, ht2,
    zext16_shiftLeft_three_getLsbD _ (by omega)]

section
variable (b : Byte) (r : Word)

theorem crcUpdate_slice_15_11 :
    (crcUpdate b r).extractLsb' 11 5 = (mixedByte b r).extractLsb' 3 5 := by
  apply BitVec.eq_of_getLsbD_eq
  intro i hi
  simp only [BitVec.getLsbD_extractLsb', hi]
  rw [show 11 + i = 8 + (3 + i) by omega, crcUpdate_getLsbD_high b r (by omega),
    BitVec.getLsbD_of_ge _ (5 + (3 + i)) (by omega), Bool.xor_false]

theorem crcUpdate_slice_10_8 : (crcUpdate b r).extractLsb' 8 3 =
    (mixedByte b r).extractLsb' 0 3 ^^^ (mixedByte b r).extractLsb' 5 3 := by
  apply BitVec.eq_of_getLsbD_eq
  intro i hi
  simp only [BitVec.getLsbD_extractLsb', BitVec.getLsbD_xor, hi, decide_true, Bool.true_and, Nat.zero_add]
  exact crcUpdate_getLsbD_high b r (by omega)

theorem crcUpdate_slice_7_4 : (crcUpdate b r).extractLsb' 4 4 =
    r.extractLsb' 12 4 ^^^ (mixedByte b r).extractLsb' 1 4 := by
  apply BitVec.eq_of_getLsbD_eq
  intro i hi
  simp only [BitVec.getLsbD_extractLsb', BitVec.getLsbD_xor, hi, decide_true, Bool.true_and]
  rw [crcUpdate_getLsbD_low b r (by omega), BitVec.getLsbD_of_ge _ (4 + (4 + i)) (by omega), Bool.xor_false,
    decide_eq_true (by omega), Bool.true_and, show 8 + (4 + i) = 12 + i by omega, show 4 + i - 3 = 1 + i by omega]

theorem crcUpdate_bit_3 : (crcUpdate b r).getLsbD 3 =
    (r.getLsbD 11 ^^ (mixedByte b r).getLsbD 0 ^^ (mixedByte b r).getLsbD 7) := by
  rw [crcUpdate_getLsbD_low b r (by decide), Bool.xor_right_comm]
  rfl

theorem crcUpdate_slice_2_0 : (crcUpdate b r).extractLsb' 0 3 =
    r.extractLsb' 8 3 ^^^ (mixedByte b r).extractLsb' 4 3 := by
  apply BitVec.eq_of_getLsbD_eq
  intro i hi
  simp only [BitVec.getLsbD_extractLsb', BitVec.getLsbD_xor, hi, decide_true, Bool.true_and, Nat.zero_add]
  rw [crcUpdate_getLsbD_low b r (by omega), decide_eq_false (by omega), Bool.false_and, Bool.xor_false]

end

/-! ### Linear maps over GF(2) -/

/-- The map takes XOR to XOR, so it is linear over GF(2). -/
def XorLinear {w v : Nat} (f : BitVec w → BitVec v) : Prop := ∀ x y, f (x ^^^ y) = f x ^^^ f y

namespace XorLinear

theorem map_zero {w v : Nat} {f : BitVec w → BitVec v} (hf : XorLinear f) : f 0#w = 0#v := by
  have h := hf 0#w 0#w
  rwa [BitVec.xor_self, BitVec.xor_self] at h

theorem iterate {w : Nat} {f : BitVec w → BitVec w} (hf : XorLinear f) (n : Nat) : XorLinear f^[n] := by
  induction n with
  | zero => exact fun _ _ => rfl
  | succ n ih =>
    intro x y
    simp only [Function.iterate_succ_apply, hf x y, ih (f x) (f y)]

/-- A linear map is known by its values on the single bits; by induction on the number of low bits that may be set. -/
theorem ext {w v : Nat} {f g : BitVec w → BitVec v} (hf : XorLinear f) (hg : XorLinear g)
    (h : ∀ i < w, f (BitVec.twoPow w i) = g (BitVec.twoPow w i)) : f = g := by
  have hlow (n : Nat) (hn : n ≤ w) : ∀ x : BitVec w, (∀ i, n ≤ i → x.getLsbD i = false) → f x = g x := by
    induction n with
    | zero =>
      intro x hx
      have hzero : x = 0#w := BitVec.eq_of_getLsbD_eq fun i _ => by simp [hx i]
      rw [hzero, hf.map_zero, hg.map_zero]
    | succ n ih =>
      intro x hx
      cases hbit : x.getLsbD n with
      | false =>
        refine ih (by omega) x fun i hi => ?_
        rcases hi.eq_or_lt with rfl | hlt
        · exact hbit
        · exact hx i hlt
      | true =>
        have hrest : f (x ^^^ BitVec.twoPow w n) = g (x ^^^ BitVec.twoPow w n) := by
          refine ih (by omega) _ fun i hi => ?_
          rcases hi.eq_or_lt with rfl | hlt
          · simp [hbit, Nat.lt_of_succ_le hn]
          · simp [hx i hlt, hlt.ne]
        rw [hf, hg, h n hn] at hrest
        exact (BitVec.xor_left_inj _).mp hrest
  funext x
  exact hlow w le_rfl x fun i hi => BitVec.getLsbD_of_ge x i hi

end XorLinear

/-! ### The bit-serial rounds -/

/-- R116 (e), as an iterate. -/
theorem bitSerialStep_eq_iterate (b : Byte) (r : Word) :
    bitSerialStep b r = bitSerialRound^[8] (r ^^^ zext16 b) := rfl

theorem bitSerialRound_xorLinear : XorLinear bitSerialRound := by
  intro x y
  -- The feedback word is linear in the bit shifted out.
  have hfeedback (p q : Bool) : (if (p ^^ q) = true then 0x8408#16 else 0#16) =
      (if p = true then 0x8408#16 else 0#16) ^^^ (if q = true then 0x8408#16 else 0#16) := by
    revert p q
    decide
  simp only [bitSerialRound, BitVec.ushiftRight_xor_distrib, BitVec.getLsbD_xor, hfeedback]
  ac_rfl

/-- The bit shifted out comes back as the top bit, which `0x8408` sets. -/
theorem bitSerialRound_top (r : Word) : (bitSerialRound r).getLsbD 15 = r.getLsbD 0 := by
  simp only [bitSerialRound]
  cases r.getLsbD 0 <;> simp

theorem bitSerialRound_injective : Function.Injective bitSerialRound := by
  intro x y hxy
  have hbit : x.getLsbD 0 = y.getLsbD 0 := by
    rw [← bitSerialRound_top x, hxy, bitSerialRound_top]
  have hshift : x >>> 1 = y >>> 1 := by
    simp only [bitSerialRound, hbit] at hxy
    exact (BitVec.xor_left_inj _).mp hxy
  apply BitVec.eq_of_getLsbD_eq
  intro i _
  cases i with
  | zero => exact hbit
  | succ i => simpa [Nat.add_comm 1] using congrArg (BitVec.getLsbD · i) hshift

/-- R116 (e): both sides are linear in `r XOR zext_16(b)`, and they agree on the 16 single bits. -/
theorem crcUpdate_eq_bitSerialStep (b : Byte) (r : Word) : crcUpdate b r = bitSerialStep b r := by
  have hlinear : XorLinear (crcUpdate 0#8) := fun x y => crcUpdate_xor 0#8 0#8 x y
  have hsame : crcUpdate 0#8 = bitSerialRound^[8] :=
    hlinear.ext (bitSerialRound_xorLinear.iterate 8) (by decide)
  rw [crcUpdate_eq_crcUpdate_zero, hsame, bitSerialStep_eq_iterate]

/-! ### Injectivity -/

theorem crcUpdate_injective_running (b : Byte) : Function.Injective (crcUpdate b) := by
  intro r r' h
  simp only [crcUpdate_eq_bitSerialStep, bitSerialStep_eq_iterate] at h
  exact (BitVec.xor_left_inj _).mp (bitSerialRound_injective.iterate 8 h)

theorem crcUpdate_injective_byte (r : Word) : Function.Injective (fun b => crcUpdate b r) := by
  intro b b' h
  simp only [crcUpdate_eq_bitSerialStep, bitSerialStep_eq_iterate] at h
  have hzext : zext16 b = zext16 b' := (BitVec.xor_right_inj _).mp (bitSerialRound_injective.iterate 8 h)
  rw [← low8_zext16 b, hzext, low8_zext16]

/-! ### The fold -/

/-- A checksum may be accumulated in portions (R113). -/
theorem crcFold_append (r : Word) (x y : List Byte) : crcFold r (x ++ y) = crcFold (crcFold r x) y := by
  induction x generalizing r with
  | nil => rfl
  | cons b x ih => exact ih (crcUpdate b r)

/-- R116 (c): equal later bytes keep different running values different. -/
theorem crcFold_injective (y : List Byte) : Function.Injective (crcFold · y) := by
  induction y with
  | nil => exact fun _ _ h => h
  | cons b y ih => exact fun _ _ h => crcUpdate_injective_running b (ih h)

/-- The low byte of the running value cancels itself: only the high half is left. -/
theorem crcUpdate_low8 (r : Word) : crcUpdate (low8 r) r = zext16 (high8 r) := by
  simp [crcUpdate_eq_terms, zext16_eq_joinBytes, joinBytes]

/-- R116 (f): the first byte leaves the high half of the value, and the second cancels that. -/
theorem crcFold_own_bytes (r : Word) : crcFold r [low8 r, high8 r] = 0#16 := by
  have hhigh := crcUpdate_low8 (zext16 (high8 r))
  rw [low8_zext16, high8_zext16] at hhigh
  rw [crcFold_cons, crcFold_cons, crcFold_nil, crcUpdate_low8, hhigh]
  rfl

end Sys2Proof.Machine

open Sys2Proof Sys2Proof.Machine

/-- Settles O2, one slice at a time, from the bits of its high half and of its low half. -/
theorem crcUpdateBitEquations : Obligations.CrcUpdateBitEquations :=
  fun b r => ⟨crcUpdate_slice_15_11 b r, crcUpdate_slice_10_8 b r, crcUpdate_slice_7_4 b r, crcUpdate_bit_3 b r,
    crcUpdate_slice_2_0 b r⟩

/-- Settles O3: eight rounds of an injective map, and an injective map of a finite set is a permutation. -/
theorem crcUpdatePermutesRunningValues : Obligations.CrcUpdatePermutesRunningValues :=
  ⟨fun b => Finite.injective_iff_bijective.mp (crcUpdate_injective_running b), crcUpdate_injective_byte⟩

/-- Settles O4: every term of the step is linear. -/
theorem crcUpdateIsLinear : Obligations.CrcUpdateIsLinear := crcUpdate_xor

/-- Settles O5: the step and the eight rounds are two linear maps that agree on the single bits. -/
theorem crcUpdateEqualsBitSerialRounds : Obligations.CrcUpdateEqualsBitSerialRounds := crcUpdate_eq_bitSerialStep

/-- Settles O6: the two bytes fold the checksum itself. -/
theorem foldWithItsChecksumIsZero : Obligations.FoldWithItsChecksumIsZero := by
  intro r s
  rw [crcFold_append, crcFold_own_bytes]

/-- Settles O7: the byte that differs makes the running values differ, and the later ones keep them so. -/
theorem oneChangedByteChangesTheFold : Obligations.OneChangedByteChangesTheFold := by
  intro r x y b b' hne h
  rw [crcFold_append, crcFold_append, crcFold_cons, crcFold_cons] at h
  exact hne (crcUpdate_injective_byte _ (crcFold_injective y h))

/-- Settles O1: the slices and shifts of the model's step are those the rule writes out, and its values are computed. -/
theorem crcUpdateYieldsTheStep : Obligations.CrcUpdateYieldsTheStep :=
  fun b r s => ⟨rfl, by decide⟩

/-- Settles O8: the fold over an append, with the seed and the order of R114. -/
theorem accumulatedChecksumEqualsRecomputed : Obligations.AccumulatedChecksumEqualsRecomputed :=
  fun t len x y => (crcFold_append (crcUpdate len (crcUpdate t Config.crcSeed)) x y).symm

end

section
/-! PROOFS. O36 and O9 to O12: the Serializer (R63, R130 to R133, R136), and its frames at a receiver (R137). -/

namespace Sys2Proof.Machine

section
variable {c : Config} {t : Byte} {p : List Byte}

theorem serialize_of_le (h : p.length ≤ c.maxLen) : serialize c t p = .ok (serializedFrame c t p) :=
  if_pos (decide_eq_true h)

theorem serialize_of_gt (h : c.maxLen < p.length) : serialize c t p = .err .oversizedPayload :=
  if_neg (by simpa [payloadFits] using h)

/-- When a frame is given: the payload fits, and it is the frame of R132. -/
theorem serialize_eq_ok {frame : List Byte} :
    serialize c t p = .ok frame ↔ p.length ≤ c.maxLen ∧ frame = serializedFrame c t p := by
  by_cases h : p.length ≤ c.maxLen
  · simp [serialize_of_le h, h, eq_comm]
  · simp [serialize_of_gt (Nat.lt_of_not_le h), h]

/-- The length byte of a payload that fits is its length: `MAX_PAYLOAD_SIZE` is below 256 (R136). -/
theorem lengthByte_toNat (h : p.length ≤ c.maxLen) : (BitVec.ofNat 8 p.length).toNat = p.length :=
  Nat.mod_eq_of_lt (h.trans_lt c.maxPayloadSize.isLt)

/-- Of the build's parameters a frame shows the start marker only. -/
theorem serializedFrame_congr {c' : Config} (h : c'.startMarker = c.startMarker) :
    serializedFrame c' t p = serializedFrame c t p := by
  simp only [serializedFrame, h]

theorem serializeInto_of_ok {frame buffer : List Byte} (h : serialize c t p = .ok frame)
    (hroom : frame.length ≤ buffer.length) :
    serializeInto c t p buffer = some (frame ++ buffer.drop frame.length, frame.length) := by
  simp only [serializeInto, h, if_pos hroom]

theorem serializeInto_of_err {e : ErrorCode} (buffer : List Byte) (h : serialize c t p = .err e) :
    serializeInto c t p buffer = some (buffer, 0) := by
  simp only [serializeInto, h]

end

/-- A list written over the front of one at least as long keeps its length. -/
theorem length_append_drop_length {frame buffer : List Byte} (h : frame.length ≤ buffer.length) :
    (frame ++ buffer.drop frame.length).length = buffer.length := by
  rw [List.length_append, List.length_drop, Nat.add_sub_cancel' h]

/-- A list written over the front of another leaves what is past its end. -/
theorem getElem?_append_drop_length {frame buffer : List Byte} {i : Nat} (h : frame.length ≤ i) :
    (frame ++ buffer.drop frame.length)[i]? = buffer[i]? := by
  rw [List.getElem?_append_right h, List.getElem?_drop, Nat.add_sub_cancel' h]

end Sys2Proof.Machine

open Sys2Proof Sys2Proof.Machine

/-- Settles O36: the sender's frame is the one the receiver's own build gives, which is one dispatch, and feeding keeps
the parameters, the host's list, the handler and the context. -/
theorem serializedFrameIsDispatchedOnce : Obligations.SerializedFrameIsDispatchedOnce := by
  intro c s t payload frame hidle hmarker hlen hser
  obtain ⟨-, rfl⟩ := serialize_eq_ok.mp hser
  rw [serializedFrame_congr hmarker]
  obtain ⟨u, hu, htrace, hidle'⟩ := rxFeed_serializedFrame t hidle hlen
  obtain ⟨hcfg, hpending, hhandler, hctx, -⟩ := KeepsBindings.rxFeed hu
  exact ⟨u, hu, htrace, hidle', hcfg, hpending, hhandler, hctx⟩

/-- Settles O11: the frame, `5 + n` bytes long, is put over the front of the buffer. -/
theorem serializeWritesItsFrameOnly : Obligations.SerializeWritesItsFrameOnly := by
  intro c t p buffer hfits hroom
  have hser : serialize c t p = .ok (serializedFrame c t p) := serialize_of_le hfits
  have hlen : 5 + p.length = (serializedFrame c t p).length := (serializedFrame_length c t p).symm
  rw [hlen] at hroom ⊢
  exact ⟨by rw [hser]; rfl, _, _, hser, serializeInto_of_ok hser hroom, length_append_drop_length hroom,
    List.take_left, fun i hi => getElem?_append_drop_length hi⟩

/-- Settles O9: the operation appends the result of `SERIALIZE`, case by case as R130 gives it. -/
theorem serializeFramesOrRejects : Obligations.SerializeFramesOrRejects := by
  intro t p s
  change Host.Outcome.next (emit (.serialized (serialize s.cfg t p)) s) = _
  split
  next hlong => rw [serialize_of_gt hlong]; rfl
  next hshort => rw [serialize_of_le (Nat.le_of_not_lt hshort)]; rfl

/-- Settles O10: everything is read off the one result, the error. -/
theorem oversizedPayloadWritesNothing : Obligations.OversizedPayloadWritesNothing := by
  intro t p buffer s hlong
  have hser : serialize s.cfg t p = .err .oversizedPayload := serialize_of_gt hlong
  refine ⟨?_, by rw [hser]; rfl, by rw [hser]; rfl, serializeInto_of_err buffer hser⟩
  rw [← hser]
  rfl

/-- Settles O12: a payload that fits has fewer than 256 bytes, so its length byte is its length. -/
theorem declaredLengthIsPayloadCount : Obligations.DeclaredLengthIsPayloadCount := by
  intro c t p frame hser
  obtain ⟨hfits, rfl⟩ := serialize_eq_ok.mp hser
  refine ⟨BitVec.ofNat 8 p.length, rfl, ?_, rfl⟩
  rw [lengthByte_toNat hfits]
  exact serializedFrame_length c t p

end

section
/-! PROOFS. O56: the requests that are no instruction, one lemma per decoder (R80, R90, R91, R93, R135, R165). -/

namespace Sys2Proof

/-! ### Operand bytes (R90, R91, R135) -/

theorem decodeCrcUpdate_of_length_lt {args : List Byte} (h : args.length < 3) :
    decodeCrcUpdate args = .error .missingOperand := by
  unfold decodeCrcUpdate
  split
  next => exact absurd h (by simp)
  next => rfl

theorem decodeSerialize_of_length_lt {args : List Byte} (h : args.length < 3) :
    decodeSerialize args = .error .missingOperand := by
  unfold decodeSerialize
  split
  next => exact absurd h (by simp)
  next => rfl

theorem decodeFeedByte_of_length_lt {args : List Byte} (h : args.length < 1) :
    decodeFeedByte args = .error .missingOperand := by
  rw [List.length_eq_zero_iff.mp (Nat.lt_one_iff.mp h)]
  rfl

section
variable {t lo hi : Byte} {p : List Byte}

theorem decodeSerialize_of_short (h : p.length < (wordOf lo hi).toNat) :
    decodeSerialize (t :: lo :: hi :: p) = .error .payloadShort := if_neg (Nat.not_le_of_lt h)

theorem decodeSerialize_of_le (h : (wordOf lo hi).toNat ≤ p.length) :
    decodeSerialize (t :: lo :: hi :: p) = .ok (.serialize t (p.take (wordOf lo hi).toNat)) := if_pos h

end

/-! ### Words of another length or code (R80, R93, R165) -/

theorem decodeTransition_of_length_ne {c : Config} {bytes : List Byte} (h : bytes.length ≠ 4) :
    decodeTransition c bytes = .error .wrongLength := by
  unfold decodeTransition
  split
  next => exact absurd rfl h
  next => rfl

theorem decodeInternal_of_length_ne {bytes : List Byte} (h : bytes.length ≠ 1) :
    decodeInternal bytes = .error .wrongLength := by
  unfold decodeInternal
  split
  next => exact absurd rfl h
  next => rfl

theorem decodeHeader_of_length_ne {bytes : List Byte} (h : bytes.length ≠ 5) :
    decodeHeader bytes = .error .wrongLength := by
  unfold decodeHeader
  split
  next => exact absurd rfl h
  next => rfl

theorem decodeInternal_of_selectCode_ne {st : Byte} (h : selectCode st ≠ 6) :
    decodeInternal [st] = .error .noSuchRow := if_neg h

/-! ### The operation a request selects (R90) -/

section
variable {c : Config} {r : Request} {sel : Byte} {args : List Byte}

theorem decode_of_no_select_byte (hf : r.format = .opSelect) (hb : r.bytes = []) :
    decode c r = .error .missingOperand := by
  simp only [decode, hf, decodeOp, hb]

theorem decode_of_select_zero (hf : r.format = .opSelect) (hb : r.bytes = sel :: args) (h : selectCode sel = 0) :
    decode c r = decodeCrcUpdate args := by
  simp only [decode, hf, decodeOp, hb, h]

theorem decode_of_select_one (hf : r.format = .opSelect) (hb : r.bytes = sel :: args) (h : selectCode sel = 1) :
    decode c r = decodeSerialize args := by
  simp only [decode, hf, decodeOp, hb, h]

theorem decode_of_select_four (hf : r.format = .opSelect) (hb : r.bytes = sel :: args) (h : selectCode sel = 4) :
    decode c r = decodeFeedByte args := by
  simp only [decode, hf, decodeOp, hb, h]

theorem decode_rxTransition (hf : r.format = .rxTransition) : decode c r = decodeTransition c r.bytes := by
  simp only [decode, hf]

theorem decode_internal (hf : r.format = .internal) : decode c r = decodeInternal r.bytes := by
  simp only [decode, hf]

theorem decode_wireFrame (hf : r.format = .wireFrame) : decode c r = decodeHeader r.bytes := by
  simp only [decode, hf]

end

end Sys2Proof

namespace Sys2Proof.Machine

/-- A request the decoder rejects stops the step, by the refusal's name. -/
theorem step_of_decode_error {s : State} {r : Request} {e : DecodeReject} (hp : s.pending.head? = some r)
    (hd : decode s.cfg r = .error e) : step s = .refused (refusalOf e) := by
  obtain ⟨rest, hp⟩ := List.head?_eq_some_iff.mp hp
  rw [step_of_pending_cons hp]
  exact issue_of_decode_error hd

end Sys2Proof.Machine

open Sys2Proof Sys2Proof.Machine

/-- Settles O56: each clause is one rejection of one decoder, under the name that `refusalOf` gives it. -/
theorem requestsThatAreNoInstructionAreRefused : Obligations.RequestsThatAreNoInstructionAreRefused := by
  intro s r hp
  refine ⟨fun sel t lo hi p hf hsel hb => ⟨fun hshort => ?_, fun hle => ?_⟩, fun hf hb => ?_,
    fun sel args hf hb hmissing => ?_, fun hf hlen => ?_, fun hf hlen => ?_, fun hf hlen => ?_,
    fun st hf hb hcode => ?_⟩
  · exact step_of_decode_error hp ((decode_of_select_one hf hb hsel).trans (decodeSerialize_of_short hshort))
  · exact (decode_of_select_one hf hb hsel).trans (decodeSerialize_of_le hle)
  · exact step_of_decode_error hp (decode_of_no_select_byte hf hb)
  · rcases hmissing with ⟨hsel, hlen⟩ | ⟨hsel, hlen⟩ | ⟨hsel, hlen⟩
    · exact step_of_decode_error hp ((decode_of_select_zero hf hb hsel).trans (decodeCrcUpdate_of_length_lt hlen))
    · exact step_of_decode_error hp ((decode_of_select_one hf hb hsel).trans (decodeSerialize_of_length_lt hlen))
    · exact step_of_decode_error hp ((decode_of_select_four hf hb hsel).trans (decodeFeedByte_of_length_lt hlen))
  · exact step_of_decode_error hp ((decode_rxTransition hf).trans (decodeTransition_of_length_ne hlen))
  · exact step_of_decode_error hp ((decode_internal hf).trans (decodeInternal_of_length_ne hlen))
  · exact step_of_decode_error hp ((decode_wireFrame hf).trans (decodeHeader_of_length_ne hlen))
  · exact step_of_decode_error hp ((decode_internal hf).trans (hb ▸ decodeInternal_of_selectCode_ne hcode))

end

section
/-! PROOFS. O13 to O15: construction, reset, and what is refused before `RX_INIT` (R150 to R152, R173, R216). -/

namespace Sys2Proof.Machine

theorem execRxReset_of_inited {s : State} (hi : s.rx.inited = true) : execRxReset s = .next (resetToEmpty s) :=
  if_pos hi

theorem execRxReset_of_not_inited {s : State} (hi : s.rx.inited = false) :
    execRxReset s = .refused .notInitialised := if_neg (by simp [hi])

theorem execRxFeedByte_of_not_inited {b : Byte} {s : State} (hi : s.rx.inited = false) :
    execRxFeedByte b s = .refused .notInitialised := if_neg (by simp [hi])

theorem execRxFeedByte_of_illegal7 {b : Byte} {s : State} (hi : s.rx.inited = true) (hs : s.rx.state = .illegal7) :
    execRxFeedByte b s = .refused .illegalState := by
  rw [execRxFeedByte, if_pos hi, if_pos hs]

/-- A context of the register's width is stored whole (R29). -/
theorem initialised_of_ctx_lt {ctx : Nat} (h : Nat) {s : State} (hctx : ctx < 2 ^ s.cfg.ctxW) :
    initialised h ctx s = { s with rx := { s.rx with
      inited := true, handler := some h, ctx := ctx, state := .empty, count := 0#8 } } := by
  rw [initialised, Nat.mod_eq_of_lt hctx]

end Sys2Proof.Machine

open Sys2Proof Sys2Proof.Machine

/-- Settles O13: `RX_INIT` answers everywhere, and a context of `CTX_W` bits is its own remainder. -/
theorem rxInitConstructsTheReceiver : Obligations.RxInitConstructsTheReceiver :=
  fun h _ _ hctx => congrArg Host.Outcome.next (initialised_of_ctx_lt h hctx)

/-- Settles O14: the body of R151 has no test but that of `inited`, and the byte beside a reset is not looked at. -/
theorem rxResetReturnsToEmpty : Obligations.RxResetReturnsToEmpty :=
  fun _ hi => ⟨execRxReset_of_inited hi, fun _ => execRxReset_of_inited hi⟩

/-- Settles O15: both operations test `inited` first. -/
theorem uninitialisedReceiverIsRefused : Obligations.UninitialisedReceiverIsRefused :=
  fun _ _ hi => ⟨execRxReset_of_not_inited hi, execRxFeedByte_of_not_inited hi⟩

end

section
/-! PROOFS. O16 to O20, O22 to O24 and O26: the rows of the table and the hook, each with its whole next state (R154 to
R165, R172), and the byte step that runs them (R153). -/

namespace Sys2Proof.Machine

theorem isMarker_iff {b : Byte} {s : State} : isMarker b s = true ↔ b = s.cfg.startMarker := beq_iff_eq

theorem lengthAccepted_iff {b : Byte} {s : State} : lengthAccepted b s = true ↔ b.toNat ≤ s.cfg.maxLen :=
  decide_eq_true_iff

/-- The `Empty` rows with the byte compared as R154 writes it. -/
theorem tEmpty_eq (b : Byte) (s : State) :
    tEmpty b s = if b = s.cfg.startMarker then tEmptyStart b s else s := by
  simp only [tEmpty, isMarker_iff, tEmptyOther_eq]

theorem tEmpty_rx_state (b : Byte) (s : State) :
    (tEmpty b s).rx.state = if b = s.cfg.startMarker then .gotStart else s.rx.state := by
  rw [tEmpty_eq]
  split <;> rfl

/-- The hook on a packet that has just become whole: the register's passing through `Complete` is not seen (R34 (I-a),
R165). -/
theorem hookIfComplete_setRxState_complete {s : State} (hl : s.rx.pktLen.toNat ≤ s.cfg.maxLen) :
    hookIfComplete (setRxState .complete s) = .next { s with
      rx := { s.rx with state := .empty, count := 0#8 }, trace := s.trace ++ [validationEvent s] } :=
  calc hookIfComplete (setRxState .complete s)
    _ = runHook (setRxState .complete s) := hookIfComplete_of_eq rfl
    _ = .next (validate (setRxState .complete s)) := runHook_of_le hl
    _ = _ := by rw [validate_eq]; rfl

theorem tRpLast_of_lt {b : Byte} {s : State} (hc : s.rx.count.toNat < s.cfg.maxLen) :
    tRpLast b s = .next (setRxState .complete (appendByte b s)) := by
  rw [tRpLast, storePayload_of_lt hc, andThen_next]

theorem exec_completeHook_of_le {s : State} (hi : s.rx.inited = true) (hs : s.rx.state = .complete)
    (hl : s.rx.pktLen.toNat ≤ s.cfg.maxLen) : exec .completeHook s = .next (validate s) :=
  runRow_eq_next.mpr ⟨hi, beq_iff_eq.mpr hs, runHook_of_le hl⟩

/-- The defensive row: the hook first, then the byte as one met in `Empty` (R164). -/
theorem exec_feedComplete_of_le {b : Byte} {s : State} (hi : s.rx.inited = true) (hs : s.rx.state = .complete)
    (hl : s.rx.pktLen.toNat ≤ s.cfg.maxLen) : exec (.feedComplete b) s = .next (tEmpty b (validate s)) := by
  rw [exec, execFeedComplete, runRow_selected hi (beq_iff_eq.mpr hs), runHook_of_le hl, andThen_next]

end Sys2Proof.Machine

open Sys2Proof Sys2Proof.Machine

/-- Settles O26: state by state, the row selected is the byte step's own case. -/
theorem rxFeedByteRunsTheSelectedRow : Obligations.RxFeedByteRunsTheSelectedRow :=
  fun _ b hi => (exec_selectedRow b hi).symm

/-- Settles O16: in `Empty` each row's guard is its condition on the byte. -/
theorem emptyRowsHuntForTheMarker : Obligations.EmptyRowsHuntForTheMarker := by
  intro s b hi hs
  refine ⟨fun hb => ?_, fun hb => ?_⟩
  · rw [exec, execFeedEmptyStart, runRow_selected hi (by simp [hs, isMarker_iff, hb])]
    rfl
  · rw [exec, execFeedEmptyOther, runRow_selected hi (by simp [hs, isMarker, hb]), tEmptyOther_eq]

/-- Settles O17: in each of the three states the row's guard holds, and its body is the write the rule gives. -/
theorem headerRowsRecordTheirByte : Obligations.HeaderRowsRecordTheirByte := by
  intro s b hi
  refine ⟨fun hs => ?_, fun hs hl => ?_, fun hs => ?_⟩
  · rw [exec, execFeedGotStart, runRow_selected hi (beq_iff_eq.mpr hs)]
    rfl
  · rw [exec, execFeedGotTypeAccept, runRow_selected hi (by simp [hs, lengthAccepted_iff, hl])]
    rfl
  · rw [exec, execFeedGotLength, runRow_selected hi (beq_iff_eq.mpr hs)]
    rfl

/-- Settles O18: the guard compares the byte with the maximum only, never with the marker. -/
theorem oversizedLengthIsDropped : Obligations.OversizedLengthIsDropped := by
  intro s b hi hs hl
  rw [exec, execFeedGotTypeReject, runRow_selected hi (by simp [hs, lengthAccepted, hl])]
  rfl

/-- Settles O19: without payload the row ends in the hook, and the packet fits any buffer. -/
theorem checksumHighRows : Obligations.ChecksumHighRows := by
  intro s b hi hs
  refine ⟨fun h0 => ?_, fun hne => ?_⟩
  · intro p
    rw [exec, execFeedGotChecksumHighZero, runRow_selected hi (by simp [hs, noPayload_iff, h0])]
    exact hookIfComplete_setRxState_complete (s := p) (by simp [p, h0])
  · rw [exec, execFeedGotChecksumHighNonzero, runRow_selected hi (by simp [hs, noPayload, hne])]
    rfl

/-- Settles O20: both rows store at `count`; with the last byte the packet is whole, and no longer than the buffer. -/
theorem payloadRowsAppend : Obligations.PayloadRowsAppend := by
  intro s b hi hs hc
  refine ⟨fun hlast => ?_, fun hmore => ?_⟩
  · intro p
    have hl : isLastByte s = true := isLastByte_iff.mpr hlast
    rw [exec, execFeedReceivingPayloadLast, runRow_selected hi (by simp [hs, hl]), tRpLast_of_lt hc, andThen_next]
    exact hookIfComplete_setRxState_complete (s := p) (pktLen_le_of_isLastByte (s := s) hc hl)
  · rw [exec, execFeedReceivingPayloadMore, runRow_selected hi (by simp [hs, isLastByte, hmore])]
    exact storePayload_of_lt hc

/-- Settles O22: the hook is selected in `Complete`, and validates a packet that fits the buffer. -/
theorem completeHookValidatesAndDispatches : Obligations.CompleteHookValidatesAndDispatches := by
  intro s hi hs hl
  rw [exec_completeHook_of_le hi hs hl, validate_eq]

/-- Settles O23: the byte meets the state the hook leaves, which is `Empty`. -/
theorem completeRowReprocessesTheByte : Obligations.CompleteRowReprocessesTheByte := by
  intro s b hi hs hl t
  refine ⟨?_, ?_⟩
  · rw [exec_feedComplete_of_le hi hs hl, validate_eq, tEmpty_eq]
    rfl
  · rw [← selectedRow_of_complete hs]
    exact rxFeedByteRunsTheSelectedRow s b hi

/-- Settles O24: the row's body is a refusal, and where its guard fails it is refused too. -/
theorem illegalStateIsRefused : Obligations.IllegalStateIsRefused := by
  intro s b
  refine ⟨fun hi hs => ⟨execRxFeedByte_of_illegal7 hi hs, ?_⟩, ?_⟩
  · rw [exec, execFeedIllegal7, runRow_selected hi (beq_iff_eq.mpr hs)]
  · rw [exec, execFeedIllegal7]
    by_cases h : s.rx.inited = true ∧ (s.rx.state == .illegal7) = true
    · obtain ⟨hi, hsel⟩ := h
      exact ⟨_, runRow_selected hi hsel⟩
    · exact runRow_refused h

end

section
/-! PROOFS. O28, O29 and O33: the events of one byte step and the state it leaves (R153, R166, R177). -/

namespace Sys2Proof.Machine

/-- The events of `RX_FEED_BYTE(b)` where it answers: the label of a length that is too long (R158), or the validation
of the packet that has become whole, with this byte (R160, R162) or before it (R164). -/
def feedEvents (b : Byte) (s : State) : List Event :=
  match s.rx.state with
  | .gotType => if lengthAccepted b s then [] else [.drop .invalidLengthField]
  | .gotChecksumHigh => if noPayload s then [validationEvent (tGchZero b s)] else []
  | .receivingPayload => if isLastByte s then [validationEvent (setRxState .complete (appendByte b s))] else []
  | .complete => [validationEvent s]
  | .empty | .gotStart | .gotLength | .illegal7 => []

theorem tEmpty_trace (b : Byte) (s : State) : (tEmpty b s).trace = s.trace := by
  unfold tEmpty
  split <;> rfl

theorem validate_trace_eq_validationEvent (s : State) : (validate s).trace = s.trace ++ [validationEvent s] :=
  validate_trace s

theorem feedNext_trace (b : Byte) (s : State) : (feedNext b s).trace = s.trace ++ feedEvents b s := by
  cases hs : s.rx.state <;> simp only [feedNext, feedEvents, hs]
  case empty => rw [tEmpty_trace, List.append_nil]
  case gotStart | gotLength | illegal7 => exact (List.append_nil _).symm
  case gotType => split <;> simp
  case gotChecksumHigh => split <;> simp [validate_trace_eq_validationEvent]
  case receivingPayload => split <;> simp [validate_trace_eq_validationEvent]
  case complete => rw [tEmpty_trace, validate_trace_eq_validationEvent]

/-- One byte step emits at most one event (R216). -/
theorem feedEvents_eq_nil_or_singleton (b : Byte) (s : State) : feedEvents b s = [] ∨ ∃ e, feedEvents b s = [e] := by
  cases hs : s.rx.state <;> simp only [feedEvents, hs]
  case gotType | gotChecksumHigh | receivingPayload => split <;> simp
  case complete => exact .inr ⟨_, rfl⟩
  case empty | gotStart | gotLength | illegal7 => exact .inl trivial

/-- Before the second checksum byte a step dispatches nothing (R177). -/
theorem feedEvents_countP_isDispatch {b : Byte} {s : State} (hs : stateCode s.rx.state < 4) :
    (feedEvents b s).countP isDispatch = 0 := by
  cases hx : s.rx.state <;> simp only [feedEvents, hx]
  case gotType => split <;> rfl
  case empty | gotStart | gotLength => rfl
  case gotChecksumHigh | receivingPayload | complete | illegal7 => simp [hx, stateCode] at hs

theorem dispatchCount_feedNext (b : Byte) (s : State) :
    dispatchCount (feedNext b s) = dispatchCount s + (feedEvents b s).countP isDispatch := by
  simp only [dispatchCount, feedNext_trace, List.countP_append]

/-- A byte takes the receiver at most one step along the header (R21). -/
theorem stateCode_feedNext_le {b : Byte} {s : State} (hs : stateCode s.rx.state < 4) :
    stateCode (feedNext b s).rx.state ≤ stateCode s.rx.state + 1 := by
  cases hx : s.rx.state <;> simp only [feedNext, hx]
  case empty =>
    rw [tEmpty_rx_state]
    split <;> simp [hx, stateCode]
  case gotStart | gotLength => simp [stateCode]
  case gotType => split <;> simp [stateCode]
  case gotChecksumHigh | receivingPayload | complete | illegal7 => simp [hx, stateCode] at hs

/-- A byte step from a state other than 7 ends in one of the six resting states (R166 (b)). -/
theorem feedNext_resting (b : Byte) {s : State} (h7 : s.rx.state ≠ .illegal7) :
    (feedNext b s).rx.state ≠ .complete ∧ (feedNext b s).rx.state ≠ .illegal7 := by
  cases hs : s.rx.state <;> simp only [feedNext, hs]
  case empty =>
    rw [tEmpty_rx_state]
    split <;> simp [hs]
  case gotStart | gotLength => simp
  case gotType | gotChecksumHigh => split <;> simp
  case receivingPayload => split <;> simp [hs]
  case complete =>
    rw [tEmpty_rx_state]
    split <;> simp
  case illegal7 => exact absurd hs h7

/-- Bytes that take the receiver no further than `GotChecksumHigh` dispatch nothing. -/
theorem dispatchCount_of_rxFeed_header {bytes : List Byte} {s t : State}
    (hlen : stateCode s.rx.state + bytes.length < 5) (h : rxFeed bytes s = .next t) :
    dispatchCount t = dispatchCount s := by
  induction bytes generalizing s with
  | nil => cases h; rfl
  | cons b bs ih =>
    rw [List.length_cons] at hlen
    obtain ⟨-, ht⟩ := rxFeed_cons_eq_next.mp h
    have hs : stateCode s.rx.state < 4 := by omega
    have hnext : stateCode (feedNext b s).rx.state ≤ stateCode s.rx.state + 1 := stateCode_feedNext_le hs
    rw [ih (by omega) ht, dispatchCount_feedNext, feedEvents_countP_isDispatch hs, Nat.add_zero]

end Sys2Proof.Machine

open Sys2Proof Sys2Proof.Machine

/-- Settles O28: a good state lets the byte step run, which keeps the bindings, rests, and stores at `count` only. -/
theorem rxFeedByteCompletes : Obligations.RxFeedByteCompletes := by
  intro s b hg hi
  have hruns : FeedRuns s := hg.feedRuns hi
  obtain ⟨hcfg, hpending, hhandler, hctx, hinited⟩ := KeepsBindings.feedNext b s
  obtain ⟨h6, h7⟩ := feedNext_resting b hruns.legal
  refine ⟨feedNext b s, execRxFeedByte_of_feedRuns hruns, h6, h7, ?_, hcfg, hpending, hhandler, hctx,
    hinited.trans hi, fun a ha => feedNext_read_other b ha, feedNext_read_count b⟩
  rw [feedNext_trace]
  rcases feedEvents_eq_nil_or_singleton b s with hnone | ⟨e, hone⟩
  · exact .inl (by rw [hnone, List.append_nil])
  · exact .inr ⟨e, by rw [hone]⟩

/-- Settles O29: where the byte step answers, its start state is not 7, and then it ends at rest. -/
theorem feedNeverRestsInComplete : Obligations.FeedNeverRestsInComplete := by
  intro s t b h
  obtain ⟨hruns, rfl⟩ := execRxFeedByte_eq_next.mp h
  exact feedNext_resting b hruns.legal

/-- Settles O33: from `Empty`, whose code is 0, four bytes come no further than `GotChecksumHigh`, whose code is 4. -/
theorem noDispatchWithinFourBytes : Obligations.NoDispatchWithinFourBytes := by
  intro s t bytes hs hlen h
  exact dispatchCount_of_rxFeed_header (by simpa [hs, stateCode] using hlen) h

end

section
/-! PROOFS. O32, O34, O39 and O41: sequences of bytes around and inside a frame (R155, R163, R170, R176, R178). -/

namespace Sys2Proof.Machine

/-! ### Noise between frames -/

/-- A byte met in `Empty` that is not the marker leaves the very same state (R155). -/
theorem rxFeed_cons_empty_other {b : Byte} {bs : List Byte} {s : State} (hi : s.rx.inited = true)
    (hs : s.rx.state = .empty) (hb : b ≠ s.cfg.startMarker) : rxFeed (b :: bs) s = rxFeed bs s := by
  rw [rxFeed_cons_of_feedRuns (feedRuns_of_header hi hs (by decide))]
  simp [feedNext, hs, tEmpty_eq, hb]

theorem rxFeed_noise {noise : List Byte} {s : State} (hi : s.rx.inited = true) (hs : s.rx.state = .empty)
    (hnoise : ∀ b ∈ noise, b ≠ s.cfg.startMarker) : rxFeed noise s = .next s := by
  induction noise with
  | nil => rfl
  | cons b noise ih =>
    obtain ⟨hb, hrest⟩ := List.forall_mem_cons.mp hnoise
    rw [rxFeed_cons_empty_other hi hs hb, ih hrest]

/-! ### Bytes inside the payload -/

theorem appendByte_rx_count_toNat {b : Byte} {s : State} (h : s.rx.count.toNat + 1 < 256) :
    (appendByte b s).rx.count.toNat = s.rx.count.toNat + 1 := toNat_succ_of_lt (Nat.lt_succ_self _) h

/-- Bytes too few to complete the frame in progress are stored, and nothing else happens (R163). -/
theorem rxFeed_payload_more {bs : List Byte} {s : State} (hi : s.rx.inited = true)
    (hs : s.rx.state = .receivingPayload) (hlen : s.rx.count.toNat + bs.length < s.rx.pktLen.toNat)
    (hmax : s.rx.pktLen.toNat ≤ s.cfg.maxLen) : rxFeed bs s = .next (appendBytes bs s) := by
  induction bs generalizing s with
  | nil => rfl
  | cons b bs ih =>
    rw [List.length_cons] at hlen
    have hstore : s.rx.count.toNat < s.cfg.maxLen := by omega
    have hcount : (appendByte b s).rx.count.toNat = s.rx.count.toNat + 1 := appendByte_rx_count_toNat (by omega)
    have hmore : ¬ isLastByte s = true := by
      rw [isLastByte_iff, ← appendByte_rx_count b, ← BitVec.toNat_inj, hcount]
      omega
    have hruns : FeedRuns s := ⟨hi, by simp [hs], fun _ => hstore, by simp [hs]⟩
    have hnext : feedNext b s = appendByte b s := by simp [feedNext, hs, hmore]
    rw [rxFeed_cons_of_feedRuns hruns, hnext, appendBytes_cons]
    refine ih hi hs ?_ hmax
    rw [hcount, appendByte_rx_pktLen]
    omega

section
variable {bs : List Byte} {s : State}

/-- While `count` does not wrap it goes up by the number of bytes stored (R22). -/
theorem appendBytes_rx_count_toNat (hfits : s.rx.count.toNat + bs.length < 256) :
    (appendBytes bs s).rx.count.toNat = s.rx.count.toNat + bs.length := by
  induction bs generalizing s with
  | nil => rfl
  | cons b bs ih =>
    rw [List.length_cons] at hfits ⊢
    have hcount : (appendByte b s).rx.count.toNat = s.rx.count.toNat + 1 := appendByte_rx_count_toNat (by omega)
    rw [appendBytes_cons, ih (by omega), hcount, Nat.add_assoc, Nat.add_comm 1]

/-- Bytes stored one after another from `count` are written there and nowhere else (R56). -/
theorem appendBytes_read_other {a : Nat} (hfits : s.rx.count.toNat + bs.length < 256)
    (ha : a < s.rx.count.toNat ∨ s.rx.count.toNat + bs.length ≤ a) :
    (appendBytes bs s).rx.payload.read a = s.rx.payload.read a := by
  induction bs generalizing s with
  | nil => rfl
  | cons b bs ih =>
    rw [List.length_cons] at hfits ha
    have hcount : (appendByte b s).rx.count.toNat = s.rx.count.toNat + 1 := appendByte_rx_count_toNat (by omega)
    rw [appendBytes_cons, ih (by omega) (by omega), appendByte_rx_payload, Memory.read_write_other _ b (by omega)]

theorem appendBytes_read_stored {i : Nat} (hfits : s.rx.count.toNat + bs.length < 256) (hi : i < bs.length) :
    (appendBytes bs s).rx.payload.read (s.rx.count.toNat + i) = bs[i]? := by
  induction bs generalizing s i with
  | nil => exact absurd hi (Nat.not_lt_zero i)
  | cons b bs ih =>
    rw [List.length_cons] at hfits hi
    have hcount : (appendByte b s).rx.count.toNat = s.rx.count.toNat + 1 := appendByte_rx_count_toNat (by omega)
    rw [appendBytes_cons]
    cases i with
    | zero =>
      rw [appendBytes_read_other (by omega) (by omega), appendByte_rx_payload]
      exact Memory.read_write_same _ _ b
    | succ i =>
      have haddr : s.rx.count.toNat + (i + 1) = (appendByte b s).rx.count.toNat + i := by omega
      rw [haddr, ih (by omega) (by omega), List.getElem?_cons_succ]

end

/-! ### An oversized length byte -/

theorem rxFeed_cons_gotType_reject {b : Byte} {bs : List Byte} {s : State} (hi : s.rx.inited = true)
    (hs : s.rx.state = .gotType) (hb : s.cfg.maxLen < b.toNat) :
    rxFeed (b :: bs) s = rxFeed bs (tGotTypeReject b s) := by
  rw [rxFeed_cons_of_feedRuns (feedRuns_of_header hi hs (by decide))]
  simp [feedNext, hs, lengthAccepted, Nat.not_le.mpr hb]

/-- A header cut short by its length byte is the absorbed error (R158), and the receiver hunts again. -/
theorem rxFeed_bad_length {s : State} (t : Byte) {x : Byte} (hidle : Idle s) (hx : s.cfg.maxLen < x.toNat) :
    ∃ v, rxFeed [s.cfg.startMarker, t, x] s = .next v ∧ Idle v ∧ v.trace = s.trace ++ [.drop .invalidLengthField] := by
  obtain ⟨hinit, hs, -⟩ := hidle
  refine ⟨tGotTypeReject x (tGotStart t (tEmptyStart s.cfg.startMarker s)), ?_, ⟨hinit, rfl, rfl⟩, rfl⟩
  calc rxFeed [s.cfg.startMarker, t, x] s
    _ = rxFeed [t, x] (tEmptyStart s.cfg.startMarker s) := rxFeed_cons_empty_marker hinit hs
    _ = rxFeed [x] (tGotStart t (tEmptyStart s.cfg.startMarker s)) := rxFeed_cons_gotStart hinit rfl
    _ = _ := rxFeed_cons_gotType_reject hinit rfl hx

/-- The labels of absorbed errors are no dispatches (R214). -/
theorem dispatchCount_of_trace_drop {s v : State} {e : ErrorCode} (h : v.trace = s.trace ++ [.drop e]) :
    dispatchCount v = dispatchCount s := by
  simp [dispatchCount, h, isDispatch]

end Sys2Proof.Machine

open Sys2Proof Sys2Proof.Machine

/-- Settles O32, by induction on the noise: each byte of it leaves the state as it is. -/
theorem noiseBetweenFramesIsIgnored : Obligations.NoiseBetweenFramesIsIgnored :=
  fun _ _ hi hs hnoise => rxFeed_noise hi hs hnoise

/-- Settles O34: the bytes are appended one by one, without looking at them. -/
theorem bytesInsidePayloadAreData : Obligations.BytesInsidePayloadAreData := by
  intro s bytes hi hs hlen hmax
  have hfits : s.rx.count.toNat + bytes.length < 256 := hlen.trans s.rx.pktLen.isLt
  have hkept := appendBytes_eq bytes s
  refine ⟨appendBytes bytes s, rxFeed_payload_more hi hs hlen hmax, ?_, appendBytes_rx_count_toNat hfits, ?_, ?_,
    fun i => appendBytes_read_stored hfits, fun a => appendBytes_read_other hfits⟩
  · exact (congrArg (·.rx.state) hkept).trans hs
  · exact congrArg (·.trace) hkept
  · exact congrArg (·.rx.pktLen) hkept

/-- Settles O39: the dropped header leaves the receiver idle, with its parameters and bindings, and the frame after it is
one dispatch. -/
theorem resynchronisesAfterBadLength : Obligations.ResynchronisesAfterBadLength := by
  intro s t x t' payload hidle hx hlen
  obtain ⟨v, hv, hvidle, hvtrace⟩ := rxFeed_bad_length t hidle hx
  have hkeeps := KeepsBindings.rxFeed hv
  obtain ⟨u, hu, hutrace, huidle⟩ := rxFeed_serializedFrame t' hvidle (hlen.trans_eq (by rw [hkeeps.cfg]))
  refine ⟨⟨v, hv, hvidle, dispatchCount_of_trace_drop hvtrace⟩, u, ?_, huidle, ?_⟩
  · rw [rxFeed_append, hv, andThen_next, ← hkeeps.cfg, hu]
  · rw [hutrace, hvtrace, hkeeps.dispatchOf_eq, List.append_assoc, List.singleton_append]

/-- Settles O41: the flipped frame is a whole frame without payload, `A1 02 00 08 C3`, and then noise. -/
theorem flippedLengthBitCanDispatch : Obligations.FlippedLengthBitCanDispatch := by
  intro s hidle hmarker hmax
  have hframe : serializedFrame s.cfg 0x02#8 [0xE7#8, 0x1F#8] =
      [0xA1#8, 0x02#8, 0x02#8, 0x08#8, 0xC3#8, 0xE7#8, 0x1F#8] := by
    rw [serializedFrame, hmarker]
    decide
  have hempty : serializedFrame s.cfg 0x02#8 [] = [0xA1#8, 0x02#8, 0x00#8, 0x08#8, 0xC3#8] := by
    rw [serializedFrame, hmarker]
    decide
  have hflipped : flippedFrame s.cfg 0x02#8 [0xE7#8, 0x1F#8] 2 1 =
      serializedFrame s.cfg 0x02#8 [] ++ [0xE7#8, 0x1F#8] := by
    rw [flippedFrame, hframe, hempty]
    decide
  obtain ⟨u, hu, htrace, hinit, hs, -⟩ := rxFeed_serializedFrame (payload := []) 0x02#8 hidle (Nat.zero_le _)
  have hcfg := (KeepsBindings.rxFeed hu).cfg
  refine ⟨?_, by rw [hflipped, hempty]; rfl, u, ?_, htrace⟩
  · rw [serialize_of_le (by rw [Config.maxLen, hmax]; decide), hframe]
  · rw [hflipped, rxFeed_append, hu, andThen_next, rxFeed_noise hinit hs]
    rw [hcfg, hmarker]
    decide

end

section
/-! PROOFS. O40: a frame with one byte changed, other than the marker and the length byte, is dropped (R178, R116). -/

namespace Sys2Proof.Machine

/-- A frame whose checksum bytes are not those of its type, length and payload is dropped (R165). -/
theorem rxFeed_frameBytes_of_mismatch {s : State} {t : Byte} {crc : Word} {payload : List Byte} (hidle : Idle s)
    (hlen : payload.length ≤ s.cfg.maxLen)
    (hcrc : packetChecksum t (BitVec.ofNat 8 payload.length) payload ≠ crc) :
    ∃ u, rxFeed (frameBytes s.cfg.startMarker t (BitVec.ofNat 8 payload.length) crc payload) s = .next u ∧ Idle u ∧
      u.trace = s.trace ++ [.drop .checksumMismatch] := by
  refine ⟨_, rxFeed_frameBytes t crc hidle hlen, ?_, ?_⟩
  · simp [Idle, frameReceived_rx_inited, hidle.1]
  · rw [validate_trace_eq_packetEvent, packetHeld_frameReceived t crc hidle hlen, frameReceived_trace, packetEvent,
      if_neg hcrc]

/-- R116 (c): one payload byte changed changes the packet checksum. -/
theorem packetChecksum_set_ne (t len : Byte) {p : List Byte} {i : Nat} {v : Byte} (hi : i < p.length) (hv : p[i] ≠ v) :
    packetChecksum t len (p.set i v) ≠ packetChecksum t len p := by
  have hset : p.set i v = p.take i ++ v :: p.drop (i + 1) := List.set_eq_take_append_cons_drop.trans (if_pos hi)
  have hsplit : p = p.take i ++ p[i] :: p.drop (i + 1) := by simp
  rw [hset]
  conv_rhs => rw [hsplit]
  exact oneChangedByteChangesTheFold Config.crcSeed (t :: len :: p.take i) (p.drop (i + 1)) v p[i] hv.symm

/-- One type byte changed changes the packet checksum. -/
theorem packetChecksum_ne_of_type_ne {t t' : Byte} (len : Byte) (p : List Byte) (h : t ≠ t') :
    packetChecksum t' len p ≠ packetChecksum t len p :=
  oneChangedByteChangesTheFold Config.crcSeed [] (len :: p) t' t h.symm

/-- A frame changed at a sensitive offset is a frame of the same length with another type, checksum or payload, and its
checksum is not that of the rest. -/
theorem corruptedFrame_eq_frameBytes {c : Config} {t : Byte} {p : List Byte} {j : Nat} {v : Byte}
    (hj : sensitiveOffset p.length j = true) (hv : (serializedFrame c t p)[j]? ≠ some v) :
    ∃ t' crc p', corruptedFrame c t p j v = frameBytes c.startMarker t' (BitVec.ofNat 8 p'.length) crc p' ∧
      p'.length = p.length ∧ packetChecksum t' (BitVec.ofNat 8 p'.length) p' ≠ crc := by
  obtain ⟨hmarker, hlength, hend⟩ := sensitiveOffset_iff.mp hj
  obtain ⟨crc, hcrc⟩ : ∃ crc, packetChecksum t (BitVec.ofNat 8 p.length) p = crc := ⟨_, rfl⟩
  have hframe : serializedFrame c t p = frameBytes c.startMarker t (BitVec.ofNat 8 p.length) crc p := by
    rw [serializedFrame, hcrc]
  rw [hframe] at hv
  simp only [corruptedFrame, hframe]
  match j with
  | 0 => exact absurd rfl hmarker
  | 1 =>
    have ht : t ≠ v := fun h => hv (congrArg some h)
    exact ⟨v, crc, p, rfl, rfl, hcrc ▸ packetChecksum_ne_of_type_ne _ p ht⟩
  | 2 => exact absurd rfl hlength
  | 3 =>
    have hlow : low8 crc ≠ v := fun h => hv (congrArg some h)
    refine ⟨t, joinBytes (high8 crc) v, p, by simp [frameBytes], rfl, fun h => hlow ?_⟩
    rw [← hcrc, h, low8_joinBytes]
  | 4 =>
    have hhigh : high8 crc ≠ v := fun h => hv (congrArg some h)
    refine ⟨t, joinBytes v (low8 crc), p, by simp [frameBytes], rfl, fun h => hhigh ?_⟩
    rw [← hcrc, h, high8_joinBytes]
  | i + 5 =>
    have hi : i < p.length := by omega
    have hbyte : p[i] ≠ v := fun h => hv ((List.getElem?_eq_getElem hi).trans (congrArg some h))
    refine ⟨t, crc, p.set i v, ?_, List.length_set, ?_⟩
    · rw [List.length_set]
      rfl
    · rw [List.length_set, ← hcrc]
      exact packetChecksum_set_ne t _ hi hbyte

end Sys2Proof.Machine

open Sys2Proof Sys2Proof.Machine

/-- Settles O40: a changed frame is a frame whose checksum does not fit, which is dropped, and a flipped bit is a
changed byte. -/
theorem oneCorruptedByteSuppressesDispatch : Obligations.OneCorruptedByteSuppressesDispatch := by
  intro s t payload j hidle hlen hj
  have hchanged (v : Byte) (hv : (serializedFrame s.cfg t payload)[j]? ≠ some v) :
      ∃ u, rxFeed (corruptedFrame s.cfg t payload j v) s = .next u ∧ Idle u ∧
        u.trace = s.trace ++ [.drop .checksumMismatch] := by
    obtain ⟨t', crc, p', hframe, hlen', hcrc⟩ := corruptedFrame_eq_frameBytes hj hv
    rw [hframe]
    exact rxFeed_frameBytes_of_mismatch hidle (hlen'.trans_le hlen) hcrc
  refine ⟨hchanged, fun k hk => ?_⟩
  obtain ⟨-, -, hend⟩ := sensitiveOffset_iff.mp hj
  have hinside : j < (serializedFrame s.cfg t payload).length := hend.trans_eq (serializedFrame_length _ _ _).symm
  rw [flippedFrame_eq_corruptedFrame k hinside]
  exact hchanged _ (flipped_byte_ne hk hinside)

end

section
/-! PROOFS. O53 and O55: steps with no operation issued, and with one that overlaps another (R171, R174, R205). -/

namespace Sys2Proof.Machine

/-- A state that a step leaves as it is stays for any number of steps. -/
theorem run_of_step_self {M : Host.Core} {s : M.State} (h : M.step s = .next s) (k : Nat) : M.run k s = .next s := by
  induction k with
  | zero => rfl
  | succ k ih =>
    rw [Host.Core.run, h]
    exact ih

/-- Every row of the table is part of an operation on the receiver. -/
theorem drivesReceiver_of_row {i : Instr} {b : Byte} (hm : i ∈ feedRows b) : drivesReceiver i = true := by
  have hall : ∀ i ∈ feedRows b, drivesReceiver i = true := by simp [feedRows, drivesReceiver]
  exact hall i hm

end Sys2Proof.Machine

open Sys2Proof Sys2Proof.Machine

/-- Settles O53: a step with no operation issued answers the state it began in. -/
theorem idleBlockChangesNothing : Obligations.IdleBlockChangesNothing :=
  fun _ k hp => run_of_step_self (M := Sys2Proof.core) (step_of_pending_nil hp) k

/-- Settles O55: the forms named drive the receiver, which the overlap guard refuses; `CRC_UPDATE` and `SERIALIZE` pass
it and emit one event. -/
theorem overlappingReceiverOperationIsRefused : Obligations.OverlappingReceiverOperationIsRefused := by
  intro s r i hp hd ho
  obtain ⟨rest, hp⟩ := List.head?_eq_some_iff.mp hp
  refine ⟨fun hforms => ?_, fun hforms => ?_⟩
  · rw [step_of_pending_cons hp]
    refine issue_of_overlap hd ho ?_
    rcases hforms with ⟨_, _, rfl⟩ | rfl | ⟨_, rfl⟩ | ⟨_, hrow⟩ | rfl | ⟨_, _, _, _, _, rfl⟩
    · rfl
    · rfl
    · rfl
    · exact drivesReceiver_of_row hrow
    · rfl
    · rfl
  · have hfree : drivesReceiver i = false := by rcases hforms with ⟨_, _, rfl⟩ | ⟨_, _, rfl⟩ <;> rfl
    obtain ⟨e, he⟩ := exec_stateless s.cfg hforms
    exact ⟨_, (stepRunsTheDecodedInstruction s r rest i hp hd fun _ => hfree).trans (he _ rfl), rfl⟩

end

section
/-! PROOFS. O48 and O49: the events an operation appends, and the dispatches among them (R200 to R203, R207). -/

namespace Sys2Proof.Machine

/-! ### Events are appended -/

/-- Without a past the instruction would emit its own events alone; with the past they come after it. -/
theorem exec_trace_append {i : Instr} {s t : State} (h : exec i s = .next t) :
    ∃ events, t.trace = s.trace ++ events := by
  rw [← withPast_withoutTrace s] at h
  obtain ⟨u, -, rfl⟩ := exec_withPast_eq_next.mp h
  exact ⟨u.trace, rfl⟩

/-! ### Valid dispatches -/

/-- The dispatch of `d` to `target` is one the receiver of `s` may make: to its handler, of a packet with the marker, a
length in bounds, that many payload bytes, its own checksum and the receiver's context (R200, R201, R203, R207). -/
structure ValidDispatch (s : State) (target : Option Nat) (d : Dispatch) : Prop where
  handler : target = s.rx.handler
  start : d.start = s.cfg.startMarker
  len : d.len.toNat ≤ s.cfg.maxLen
  payload : d.payload.length = d.len.toNat
  crc : d.crc = packetChecksum d.ptype d.len d.payload
  ctx : d.ctx = s.rx.ctx

/-- Every dispatch among the events is one the receiver of `s` may make. -/
def ValidEvents (s : State) (events : List Event) : Prop :=
  ∀ target d, .dispatch target d ∈ events → ValidDispatch s target d

/-- From `s` to `t` events were appended, and every dispatch among them is one the receiver of `s` may make. -/
def EmitsValid (s t : State) : Prop := ∃ events, t.trace = s.trace ++ events ∧ ValidEvents s events

/-- What the receiver may dispatch depends on its bindings and the parameters alone. -/
theorem ValidDispatch.of_keepsBindings {s u : State} {target : Option Nat} {d : Dispatch} (hk : KeepsBindings s u)
    (h : ValidDispatch u target d) : ValidDispatch s target d :=
  { h with
    handler := h.handler.trans hk.handler
    start := h.start.trans (congrArg Config.startMarker hk.cfg)
    len := h.len.trans_eq (congrArg Config.maxLen hk.cfg)
    ctx := h.ctx.trans hk.ctx }

namespace ValidEvents
variable {s u : State}

theorem nil : ValidEvents s [] := fun _ _ hd => absurd hd List.not_mem_nil

theorem append {xs ys : List Event} (hx : ValidEvents s xs) (hy : ValidEvents s ys) : ValidEvents s (xs ++ ys) :=
  fun target d hd => (List.mem_append.mp hd).elim (hx target d) (hy target d)

theorem of_keepsBindings {events : List Event} (hk : KeepsBindings s u) (h : ValidEvents u events) :
    ValidEvents s events := fun target d hd => (h target d hd).of_keepsBindings hk

/-- An event that is no dispatch. -/
theorem of_not_isDispatch {e : Event} (he : isDispatch e = false) : ValidEvents s [e] := by
  rintro target d hd
  rw [← List.mem_singleton.mp hd] at he
  cases he

/-- Validation dispatches a packet only if its checksum fits; the marker and the length are checked before (R165). -/
theorem validationEvent (hstart : s.rx.pktStart = s.cfg.startMarker) (hlen : s.rx.pktLen.toNat ≤ s.cfg.maxLen) :
    ValidEvents s [validationEvent s] := by
  intro target d hd
  rw [List.mem_singleton, validationEvent_eq_packetEvent, packetEvent] at hd
  split at hd
  next hcrc =>
    cases hd
    exact ⟨rfl, hstart, hlen, payloadBytes_length _ _, hcrc.symm, rfl⟩
  next => cases hd

end ValidEvents

/-! ### What an instruction dispatches from a good state -/

namespace EmitsValid
variable {s t u : State}

theorem silent (h : t.trace = s.trace) : EmitsValid s t := ⟨[], by rw [h, List.append_nil], .nil⟩

theorem emit {e : Event} (he : isDispatch e = false) : EmitsValid s (emit e s) := ⟨[e], rfl, .of_not_isDispatch he⟩

/-- One operation after another, where the first keeps the bindings. -/
theorem trans (hk : KeepsBindings s u) (h : EmitsValid s u) (h' : EmitsValid u t) : EmitsValid s t := by
  obtain ⟨first, hu, hfirst⟩ := h
  obtain ⟨second, ht, hsecond⟩ := h'
  exact ⟨first ++ second, by rw [ht, hu, List.append_assoc], hfirst.append (hsecond.of_keepsBindings hk)⟩

end EmitsValid

namespace GoodState
variable {s : State}

/-- The frame that a byte makes whole began with the marker and has an accepted length (R34 (I-b), (I-e)). -/
theorem validEvents_feedEvents (hg : GoodState s) (hi : s.rx.inited = true) (b : Byte) :
    ValidEvents s (feedEvents b s) := by
  have hstart (hne : s.rx.state ≠ .empty) : s.rx.pktStart = s.cfg.startMarker := hg.startIsMarker hi hne
  cases hs : s.rx.state <;> simp only [feedEvents, hs]
  case gotType =>
    split
    · exact .nil
    · exact .of_not_isDispatch rfl
  case gotChecksumHigh =>
    split
    · exact .of_keepsBindings (u := tGchZero b s) ⟨rfl, rfl, rfl, rfl, rfl⟩
        (.validationEvent (hstart (by simp [hs])) (hg.lenFits hi (.inr (.inl hs))))
    · exact .nil
  case receivingPayload =>
    split
    · exact .of_keepsBindings (u := setRxState .complete (Machine.appendByte b s)) ⟨rfl, rfl, rfl, rfl, rfl⟩
        (.validationEvent (hstart (by simp [hs])) (hg.lenFits hi (.inr (.inr hs))))
    · exact .nil
  case complete => exact absurd hs (hg.resting hi).1
  case empty | gotStart | gotLength | illegal7 => exact .nil

theorem emitsValid_feedNext (hg : GoodState s) (hi : s.rx.inited = true) (b : Byte) :
    EmitsValid s (Machine.feedNext b s) := ⟨feedEvents b s, feedNext_trace b s, hg.validEvents_feedEvents hi b⟩

theorem emitsValid_rxFeed {bs : List Byte} {t : State} (hg : GoodState s) (h : Machine.rxFeed bs s = .next t) :
    EmitsValid s t := by
  induction bs generalizing s with
  | nil => cases h; exact .silent rfl
  | cons b bs ih =>
    obtain ⟨hr, ht⟩ := rxFeed_cons_eq_next.mp h
    exact .trans (.feedNext b s) (hg.emitsValid_feedNext hr.inited b) (ih (hg.feedNext hr.inited) ht)

theorem emitsValid_exec {i : Instr} {t : State} (hg : GoodState s) (h : Machine.exec i s = .next t) :
    EmitsValid s t := by
  cases exec_eq_next.mp h with
  | crcUpdate | serialize => exact .emit rfl
  | rxInit | rxReset => exact .silent rfl
  | rxFeedByte b hr | row b hr => exact hg.emitsValid_feedNext hr.inited b
  | completeHook hi hs => exact absurd hs (hg.resting hi).1
  | frameHeader hf => exact hg.emitsValid_rxFeed hf

end GoodState

end Sys2Proof.Machine

open Sys2Proof Sys2Proof.Machine

/-- Settles O48: no instruction reads the events before it, so it carries them along unchanged. -/
theorem emittedEventsNeverChange : Obligations.EmittedEventsNeverChange := fun _ _ _ h => exec_trace_append h

/-- Settles O49: each instruction from a good state appends valid dispatches only, and the events appended are fixed by
the two traces. -/
theorem everyDispatchIsAValidPacket : Obligations.EveryDispatchIsAValidPacket := by
  intro i s t events target d hg h htrace hd
  obtain ⟨appended, happended, hvalid⟩ := hg.emitsValid_exec h
  have hevents : events = appended := List.append_cancel_left (htrace.symm.trans happended)
  obtain ⟨hhandler, hstart, hlen, hpayload, hcrc, hctx⟩ := hvalid target d (hevents ▸ hd)
  exact ⟨hhandler, hstart, hlen, hpayload, hcrc, hctx⟩

end

section
/-! PROOFS. O30: which events one byte step can emit, by the state it began in (R158, R160, R162, R177, R216). -/

namespace Sys2Proof.Machine

/-- The states in which the next byte makes the frame whole: the high checksum byte with no payload to come, or the last
payload byte (R160, R162). -/
def AwaitsLastByte (s : State) : Prop :=
  s.rx.state = .gotChecksumHigh ∧ s.rx.pktLen = 0#8 ∨
    s.rx.state = .receivingPayload ∧ s.rx.count.toNat + 1 = s.rx.pktLen.toNat

/-- The events `RX_FEED_BYTE(b)` can emit from a good state: none, the label of a length above the maximum, or the
validation of the frame it makes whole, after which the receiver is between frames. -/
theorem GoodState.feedEvents_cases {s : State} (hg : GoodState s) (hi : s.rx.inited = true) (b : Byte) :
    feedEvents b s = [] ∨
    (s.rx.state = .gotType ∧ s.cfg.maxLen < b.toNat ∧ feedEvents b s = [.drop .invalidLengthField]) ∨
    (AwaitsLastByte s ∧ (Machine.feedNext b s).rx.state = .empty ∧
      ∃ u : State, u.rx.handler = s.rx.handler ∧ feedEvents b s = [validationEvent u]) := by
  cases hs : s.rx.state <;> simp only [feedEvents, hs]
  case empty | gotStart | gotLength | illegal7 => exact .inl trivial
  case gotType =>
    split
    next => exact .inl rfl
    next hl => exact .inr (.inl ⟨trivial, not_le.mp (mt lengthAccepted_iff.mpr hl), rfl⟩)
  case gotChecksumHigh =>
    split
    next hz =>
      exact .inr (.inr ⟨.inl ⟨hs, noPayload_iff.mp hz⟩, by simp [Machine.feedNext, hs, hz], tGchZero b s, rfl, rfl⟩)
    next => exact .inl rfl
  case receivingPayload =>
    split
    next hl =>
      have hlast : s.rx.count.toNat + 1 = s.rx.pktLen.toNat := by
        rw [← hg.count_succ_toNat hi hs, isLastByte_iff.mp hl]
      exact .inr (.inr ⟨.inr ⟨hs, hlast⟩, by simp [Machine.feedNext, hs, hl],
        setRxState .complete (Machine.appendByte b s), rfl, rfl⟩)
    next => exact .inl rfl
  case complete => exact absurd hs (hg.resting hi).1

/-- A validation drops the packet or dispatches it to the bound handler, with the checksum of its own bytes (R165). -/
theorem validationEvent_cases (s : State) : validationEvent s = .drop .checksumMismatch ∨
    ∃ d, validationEvent s = .dispatch s.rx.handler d ∧ d.crc = crcFold 0xFFFF#16 ([d.ptype, d.len] ++ d.payload) := by
  unfold validationEvent
  split
  next hcrc => exact .inr ⟨_, rfl, hcrc.symm⟩
  next => exact .inl rfl

end Sys2Proof.Machine

open Sys2Proof Sys2Proof.Machine

/-- Settles O30: a byte step appends its `feedEvents`, which a good state limits to none, the label of a bad length, or
one validation. -/
theorem eachFeedEmitsAtMostOneEvent : Obligations.EachFeedEmitsAtMostOneEvent := by
  intro s t b hg h
  obtain ⟨hruns, rfl⟩ := execRxFeedByte_eq_next.mp h
  rw [feedNext_trace]
  obtain hnone | ⟨hs, hlong, hdrop⟩ | ⟨hlast, hempty, u, hhandler, hvalidated⟩ := hg.feedEvents_cases hruns.inited b
  · exact .inl (by rw [hnone, List.append_nil])
  · exact .inr ⟨_, by rw [hdrop], .inl ⟨rfl, hs, hlong⟩⟩
  · exact .inr ⟨_, by rw [hvalidated], .inr ⟨hlast, hempty, hhandler ▸ validationEvent_cases u⟩⟩

end

section
/-! PROOFS. O44: an operation used as the contract allows is answered (R217, R225, R251). -/

namespace Sys2Proof.Machine

/-- From a good state an operation answers, unless it uses a receiver before its `RX_INIT` (R251). -/
theorem GoodState.exec_operation_eq_next {s : State} {i : Instr} (hg : GoodState s) (hop : isOperation i = true)
    (hinit : s.rx.inited = false → allowedBeforeInit i = true) : ∃ t, Machine.exec i s = .next t := by
  have inited_of_receiver (h : allowedBeforeInit i = false) : s.rx.inited = true := by
    by_contra hne
    simp [hinit (eq_false_of_ne_true hne)] at h
  cases i with
  | crcUpdate b r => exact ⟨_, exec_of_completes (.crcUpdate b r s)⟩
  | serialize x p => exact ⟨_, exec_of_completes (.serialize x p s)⟩
  | rxInit hd ctx => exact ⟨_, exec_of_completes (.rxInit hd ctx s)⟩
  | rxReset => exact ⟨_, exec_of_completes (.rxReset (inited_of_receiver rfl))⟩
  | rxFeedByte b => exact ⟨_, exec_of_completes (.rxFeedByte b (hg.feedRuns (inited_of_receiver rfl)))⟩
  | _ => cases hop

end Sys2Proof.Machine

open Sys2Proof Sys2Proof.Machine

/-- Settles O44: with no request the step changes nothing; with one, the contract leaves an operation to run on the good
state that has the request taken off its list. -/
theorem contractedHostIsNeverStopped : Obligations.ContractedHostIsNeverStopped := by
  intro s hg hcontract
  cases hp : s.pending with
  | nil => exact ⟨s, step_of_pending_nil hp⟩
  | cons r rest =>
    obtain ⟨i, hd, hop, hoverlap, hinit⟩ := hcontract r (by simp [hp])
    obtain ⟨t, ht⟩ := (hg.withPending rest).exec_operation_eq_next hop hinit
    refine ⟨t, ?_⟩
    calc step s = issue r { s with pending := rest } := step_of_pending_cons hp
      _ = exec i { s with pending := rest } := issue_eq_exec hd hoverlap
      _ = .next t := ht

end

section
/-! PROOFS. O38: a frame through the machine's step, one operation of the host's at a time (R8, R9, R137, R150, R251). -/

namespace Sys2Proof.Machine

/-! ### The host's list: no operation reads or writes what is still to be issued -/

/-- The same state with `rs` for the host to issue. -/
def withRequests (rs : List Request) (s : State) : State := { s with pending := rs }

@[simp] theorem withRequests_cfg (rs : List Request) (s : State) : (withRequests rs s).cfg = s.cfg := rfl
@[simp] theorem withRequests_rx (rs : List Request) (s : State) : (withRequests rs s).rx = s.rx := rfl

section
variable (rs : List Request) (b : Byte) (s : State)

theorem validate_withRequests : validate (withRequests rs s) = withRequests rs (validate s) :=
  (apply_ite (withRequests rs) (computedChecksum s = s.rx.pktCrc)
    (resetToEmpty (emit (.dispatch s.rx.handler (packetHeld s)) s))
    (resetToEmpty (emit (.drop .checksumMismatch) s))).symm

theorem tEmpty_withRequests : tEmpty b (withRequests rs s) = withRequests rs (tEmpty b s) :=
  (apply_ite (withRequests rs) (isMarker b s = true) (tEmptyStart b s) (tEmptyOther b s)).symm

/-- The byte step carries the host's list along. -/
theorem feedNext_withRequests : feedNext b (withRequests rs s) = withRequests rs (feedNext b s) := by
  cases hs : s.rx.state <;> simp only [feedNext, withRequests_rx, hs]
  case empty => exact tEmpty_withRequests rs b s
  case gotStart | gotLength => rfl
  case gotType =>
    rw [apply_ite (withRequests rs)]
    rfl
  case gotChecksumHigh | receivingPayload =>
    rw [apply_ite (withRequests rs), ← validate_withRequests]
    rfl
  case complete => rw [validate_withRequests, tEmpty_withRequests]

end

theorem FeedRuns.withRequests {s : State} (h : FeedRuns s) (rs : List Request) : FeedRuns (withRequests rs s) :=
  ⟨h.inited, h.legal, h.storeFits, h.packetFits⟩

/-! ### One step for each operation, and the run -/

theorem run_succ_of_step {s u : Sys2Proof.core.State} (h : step s = .next u) (k : Nat) :
    Sys2Proof.core.run (k + 1) s = Sys2Proof.core.run k u := by
  have hcore : Sys2Proof.core.step s = .next u := h
  rw [Host.Core.run, hcore]

/-- The step that issues `RX_INIT`: the context's low `CTX_W` bits reach the port, and the register keeps them. -/
theorem step_rxInit (h ctx : Nat) (rest : List Request) (s : State) :
    step (withRequests (encode (.rxInit h ctx) :: rest) s) = .next (withRequests rest (initialised h ctx s)) := by
  have hport : initialised h (ctx % 2 ^ s.cfg.ctxW) (withRequests rest s) = withRequests rest (initialised h ctx s) := by
    rw [initialised, withRequests_cfg, Nat.mod_mod]
    rfl
  calc step (withRequests (encode (.rxInit h ctx) :: rest) s)
    _ = issue (encode (.rxInit h ctx)) (withRequests rest s) := step_of_pending_cons rfl
    _ = exec (.rxInit h (ctx % 2 ^ s.cfg.ctxW)) (withRequests rest s) := issue_eq_exec rfl nofun
    _ = .next (initialised h (ctx % 2 ^ s.cfg.ctxW) (withRequests rest s)) := exec_of_completes (.rxInit ..)
    _ = .next (withRequests rest (initialised h ctx s)) := by rw [hport]

/-- The step that issues `RX_FEED_BYTE`, where the byte step answers. -/
theorem step_rxFeedByte {b : Byte} {s : State} (hr : FeedRuns s) (rest : List Request) :
    step (withRequests (encode (.rxFeedByte b) :: rest) s) = .next (withRequests rest (feedNext b s)) :=
  calc step (withRequests (encode (.rxFeedByte b) :: rest) s)
    _ = issue (encode (.rxFeedByte b)) (withRequests rest s) := step_of_pending_cons rfl
    _ = exec (.rxFeedByte b) (withRequests rest s) := issue_eq_exec (decode_encode rfl) nofun
    _ = .next (feedNext b (withRequests rest s)) := exec_of_completes (.rxFeedByte b (hr.withRequests rest))
    _ = .next (withRequests rest (feedNext b s)) := by rw [feedNext_withRequests]

/-- The host's operations that feed `bs`, one byte each (R96 (1)). -/
def feedRequests (bs : List Byte) : List Request := bs.map fun b => encode (.rxFeedByte b)

/-- Issued one a step, they do what feeding the sequence does, and leave nothing pending. -/
theorem run_feedRequests {bs : List Byte} {s t : State} (h : rxFeed bs s = .next t) :
    Sys2Proof.core.run bs.length (withRequests (feedRequests bs) s) = .next (withRequests [] t) := by
  induction bs generalizing s with
  | nil => cases h; rfl
  | cons b bs ih =>
    obtain ⟨hr, hrest⟩ := rxFeed_cons_eq_next.mp h
    calc Sys2Proof.core.run (bs.length + 1) (withRequests (feedRequests (b :: bs)) s)
      _ = Sys2Proof.core.run bs.length (withRequests (feedRequests bs) (feedNext b s)) :=
          run_succ_of_step (step_rxFeedByte hr _) _
      _ = .next (withRequests [] t) := ih hrest

/-- After `RX_INIT` the receiver is idle, from whatever state. -/
theorem idle_initialised (h ctx : Nat) (s : State) : Idle (initialised h ctx s) := ⟨rfl, rfl, rfl⟩

end Sys2Proof.Machine

open Sys2Proof Sys2Proof.Machine

/-- Settles O38: the first step leaves an idle receiver with that handler and context, the others feed it the frame, which
is one dispatch (R137). -/
theorem hostProgramDeliversTheFrame : Obligations.HostProgramDeliversTheFrame := by
  intro s h ctx t payload frame hser
  obtain ⟨hlen, hframe⟩ := serialize_eq_ok.mp hser
  obtain ⟨v, hv, htrace, hidle⟩ := rxFeed_serializedFrame (s := initialised h ctx s) t (idle_initialised h ctx s) hlen
  have hfed : rxFeed frame (initialised h ctx s) = .next v := by
    rw [hframe]
    exact hv
  refine ⟨withRequests [] v, ?_, rfl, hidle, htrace⟩
  rw [Nat.add_comm]
  calc Sys2Proof.core.run (frame.length + 1) (withRequests (encode (.rxInit h ctx) :: feedRequests frame) s)
    _ = Sys2Proof.core.run frame.length (withRequests (feedRequests frame) (initialised h ctx s)) :=
        run_succ_of_step (step_rxInit h ctx _ s) _
    _ = .next (withRequests [] v) := run_feedRequests hfed

end
